-- ==== Sys2Proof/Word.lean ====
section
/-! DEFINITION. The word types of nes-lib CORE: names only. Every helper that takes a word apart or puts one together
stands in Sys2Proof/Decode.lean. -/

namespace Sys2Proof

/-- A data byte: the data width is 8 bits (spec/00_scope.md R5). -/
abbrev Byte := BitVec 8

/-- A CPU bus address: 16 bits (R5, spec/20_memory.md R57). -/
abbrev Addr := BitVec 16

/-- A PPU bus address: 14 bits, so that taking an address `& 0x3FFF` is its width (R60). -/
abbrev PAddr := BitVec 14

end Sys2Proof
end

