-- ==== Sys2Proof/Config.lean ====
section
/-! DEFINITION. What is fixed for one machine: the cartridge (spec/10_state.md R30) and the parameters of
spec/00_scope.md R5. No value is free (spec/93_implementation_defined.md section 1: no result is undefined), so this file
holds no opaque constant; a parameter the spec calls OPEN is a field, and a statement over all states holds for each of its
values (log 5). -/

namespace Sys2Proof

/-- A memory: the (index, byte) pairs that differ from what an unlisted index reads as, indexes strictly rising
(its operations and canonical form are in Machine/Memory.lean). -/
abbrev Memory := List Host.Cell

/-- The cartridge's "mirroring mode {Horizontal, Vertical, None}" (R30). -/
inductive Mirror where
  | horizontal
  | vertical
  | none
deriving DecidableEq, Repr

/-- The cartridge record (R30), populated once at load. SRAM is the machine's state, not a field here. -/
structure Cartridge where
  /-- `PRG_UNITS`, 1 or 2 units of 16384 bytes. -/
  prgUnits : Nat
  /-- `PRG`, "immutable PRG bytes". -/
  prg : Memory
  /-- `CHR_UNITS`, 1 or more units of 8192 bytes. -/
  chrUnits : Nat
  /-- `CHR`, "immutable CHR bytes". -/
  chr : Memory
  /-- `HAS_SRAM`. -/
  hasSram : Bool
  /-- `MAPPER_ID`, 0 in every machine (R318). -/
  mapperId : Byte
  /-- `MIRROR`. -/
  mirror : Mirror
deriving DecidableEq, Repr

/-- The OPEN parameters of R5 that the running machine consults. -/
structure Params where
  /-- `NMI_GATED`: false forwards every vblank edge, true gates it by control bit 7 (spec/60_exceptions.md R284). -/
  nmiGated : Bool
  /-- `OAM_DMA_ENABLE`: false latches the register only (spec/20_memory.md R45). -/
  oamDmaEnable : Bool
  /-- `CTRL1_CONST`, the byte read at 0x4016 (R46). -/
  ctrl1Const : Byte
  /-- `CTRL2_CONST`, the byte read at 0x4017 (R46). -/
  ctrl2Const : Byte
deriving DecidableEq, Repr

/-- The defaults of R5. -/
def Params.default : Params :=
  { nmiGated := false, oamDmaEnable := false, ctrl1Const := 0x00, ctrl2Const := 0x00 }

/-- `RAM_INIT`, `VRAM_INIT`, `OAM_INIT`, `PAL_INIT`, `SRAM_INIT`, `FB_INIT` (R5): the power-on contents of each memory. -/
structure Inits where
  ram : Memory
  vram : Memory
  oam : Memory
  pal : Memory
  sram : Memory
  fb : Memory
deriving DecidableEq, Repr

/-- "recommended all zero" (R5, spec/92_eei_decisions.md D22). -/
def Inits.zero : Inits := { ram := [], vram := [], oam := [], pal := [], sram := [], fb := [] }

/-- The cartridge of `State.reset`: one PRG unit and one CHR unit whose bytes are all zero, no SRAM, Horizontal: the
default of spec/95_test_vectors.md section 0 with no program in it. DESIGN CHOICE (log 1). -/
def Cartridge.empty : Cartridge :=
  { prgUnits := 1, prg := [], chrUnits := 1, chr := [], hasSram := false, mapperId := 0x00, mirror := .horizontal }

end Sys2Proof
end

