-- ==== Sys2Proof/Syntax.lean ====
section
/-! DEFINITION. The instruction set as syntax: the thirteen addressing modes and the 151 rows of spec/opcode_table.json
(spec/30_encoding.md R99), one constructor of `Instr` a row. A constructor's argument is the row's operand: one byte in
format F2, the 16-bit address of bytes 2 and 1 in format F3 (R82, R83). -/

namespace Sys2Proof

/-- The thirteen addressing modes (R85 to R97). -/
inductive Mode where
  /-- implied (R85) -/
  | imp
  /-- accumulator (R86) -/
  | acc
  /-- immediate (R87) -/
  | imm
  /-- zero page (R88) -/
  | zp
  /-- zero page indexed by X (R89) -/
  | zpx
  /-- zero page indexed by Y (R90) -/
  | zpy
  /-- absolute (R91) -/
  | abs
  /-- absolute indexed by X (R92) -/
  | absx
  /-- absolute indexed by Y (R93) -/
  | absy
  /-- absolute indirect (R94) -/
  | ind
  /-- indexed indirect (R95) -/
  | indx
  /-- indirect indexed (R96) -/
  | indy
  /-- relative (R97) -/
  | rel
deriving DecidableEq, Repr

/-- The 56 mnemonics (R99). -/
inductive Mnemonic where
  | lda | ldx | ldy | sta | stx | sty | tax | tay | txa | tya | tsx | txs | pha | php
  | pla | plp | adc | sbc | and | ora | eor | cmp | cpx | cpy | bit | inc | inx | iny
  | dec | dex | dey | asl | lsr | rol | ror | jmp | jsr | rts | rti | brk | bpl | bmi
  | bvc | bvs | bcc | bcs | bne | beq | clc | sec | cli | sei | clv | cld | sed | nop
deriving DecidableEq, Repr

/-- An instruction descriptor: what the opcode table gives for an opcode byte, "(mnemonic, addressing mode, instruction
length, base cycle cost, page-cross-adds-cycle flag)"; the length is a function of the mode (R84). -/
structure OpRow where
  opcode : Byte
  mnemonic : Mnemonic
  mode : Mode
  base : Nat
  pageCross : Bool
deriving DecidableEq, Repr

/-- The 151 instructions, one constructor for each row of the opcode table. -/
inductive Instr where
  /-- 0xA1 LDA `indx` (R110, R95) -/
  | ldaIndx (b : Byte)
  /-- 0xA5 LDA `zp` (R110, R88) -/
  | ldaZp (b : Byte)
  /-- 0xA9 LDA `imm` (R110, R87) -/
  | ldaImm (b : Byte)
  /-- 0xAD LDA `abs` (R110, R91) -/
  | ldaAbs (a : Addr)
  /-- 0xB1 LDA `indy` (R110, R96) -/
  | ldaIndy (b : Byte)
  /-- 0xB5 LDA `zpx` (R110, R89) -/
  | ldaZpx (b : Byte)
  /-- 0xB9 LDA `absy` (R110, R93) -/
  | ldaAbsy (a : Addr)
  /-- 0xBD LDA `absx` (R110, R92) -/
  | ldaAbsx (a : Addr)
  /-- 0xA2 LDX `imm` (R111, R87) -/
  | ldxImm (b : Byte)
  /-- 0xA6 LDX `zp` (R111, R88) -/
  | ldxZp (b : Byte)
  /-- 0xAE LDX `abs` (R111, R91) -/
  | ldxAbs (a : Addr)
  /-- 0xB6 LDX `zpy` (R111, R90) -/
  | ldxZpy (b : Byte)
  /-- 0xBE LDX `absy` (R111, R93) -/
  | ldxAbsy (a : Addr)
  /-- 0xA0 LDY `imm` (R112, R87) -/
  | ldyImm (b : Byte)
  /-- 0xA4 LDY `zp` (R112, R88) -/
  | ldyZp (b : Byte)
  /-- 0xAC LDY `abs` (R112, R91) -/
  | ldyAbs (a : Addr)
  /-- 0xB4 LDY `zpx` (R112, R89) -/
  | ldyZpx (b : Byte)
  /-- 0xBC LDY `absx` (R112, R92) -/
  | ldyAbsx (a : Addr)
  /-- 0x81 STA `indx` (R113, R95) -/
  | staIndx (b : Byte)
  /-- 0x85 STA `zp` (R113, R88) -/
  | staZp (b : Byte)
  /-- 0x8D STA `abs` (R113, R91) -/
  | staAbs (a : Addr)
  /-- 0x91 STA `indy` (R113, R96) -/
  | staIndy (b : Byte)
  /-- 0x95 STA `zpx` (R113, R89) -/
  | staZpx (b : Byte)
  /-- 0x99 STA `absy` (R113, R93) -/
  | staAbsy (a : Addr)
  /-- 0x9D STA `absx` (R113, R92) -/
  | staAbsx (a : Addr)
  /-- 0x86 STX `zp` (R114, R88) -/
  | stxZp (b : Byte)
  /-- 0x8E STX `abs` (R114, R91) -/
  | stxAbs (a : Addr)
  /-- 0x96 STX `zpy` (R114, R90) -/
  | stxZpy (b : Byte)
  /-- 0x84 STY `zp` (R115, R88) -/
  | styZp (b : Byte)
  /-- 0x8C STY `abs` (R115, R91) -/
  | styAbs (a : Addr)
  /-- 0x94 STY `zpx` (R115, R89) -/
  | styZpx (b : Byte)
  /-- 0xAA TAX `imp` (R116, R85) -/
  | tax
  /-- 0xA8 TAY `imp` (R117, R85) -/
  | tay
  /-- 0x8A TXA `imp` (R118, R85) -/
  | txa
  /-- 0x98 TYA `imp` (R119, R85) -/
  | tya
  /-- 0xBA TSX `imp` (R120, R85) -/
  | tsx
  /-- 0x9A TXS `imp` (R121, R85) -/
  | txs
  /-- 0x48 PHA `imp` (R130, R85) -/
  | pha
  /-- 0x08 PHP `imp` (R131, R85) -/
  | php
  /-- 0x68 PLA `imp` (R132, R85) -/
  | pla
  /-- 0x28 PLP `imp` (R133, R85) -/
  | plp
  /-- 0x61 ADC `indx` (R142, R95) -/
  | adcIndx (b : Byte)
  /-- 0x65 ADC `zp` (R142, R88) -/
  | adcZp (b : Byte)
  /-- 0x69 ADC `imm` (R142, R87) -/
  | adcImm (b : Byte)
  /-- 0x6D ADC `abs` (R142, R91) -/
  | adcAbs (a : Addr)
  /-- 0x71 ADC `indy` (R142, R96) -/
  | adcIndy (b : Byte)
  /-- 0x75 ADC `zpx` (R142, R89) -/
  | adcZpx (b : Byte)
  /-- 0x79 ADC `absy` (R142, R93) -/
  | adcAbsy (a : Addr)
  /-- 0x7D ADC `absx` (R142, R92) -/
  | adcAbsx (a : Addr)
  /-- 0xE1 SBC `indx` (R143, R95) -/
  | sbcIndx (b : Byte)
  /-- 0xE5 SBC `zp` (R143, R88) -/
  | sbcZp (b : Byte)
  /-- 0xE9 SBC `imm` (R143, R87) -/
  | sbcImm (b : Byte)
  /-- 0xED SBC `abs` (R143, R91) -/
  | sbcAbs (a : Addr)
  /-- 0xF1 SBC `indy` (R143, R96) -/
  | sbcIndy (b : Byte)
  /-- 0xF5 SBC `zpx` (R143, R89) -/
  | sbcZpx (b : Byte)
  /-- 0xF9 SBC `absy` (R143, R93) -/
  | sbcAbsy (a : Addr)
  /-- 0xFD SBC `absx` (R143, R92) -/
  | sbcAbsx (a : Addr)
  /-- 0x21 AND `indx` (R144, R95) -/
  | andIndx (b : Byte)
  /-- 0x25 AND `zp` (R144, R88) -/
  | andZp (b : Byte)
  /-- 0x29 AND `imm` (R144, R87) -/
  | andImm (b : Byte)
  /-- 0x2D AND `abs` (R144, R91) -/
  | andAbs (a : Addr)
  /-- 0x31 AND `indy` (R144, R96) -/
  | andIndy (b : Byte)
  /-- 0x35 AND `zpx` (R144, R89) -/
  | andZpx (b : Byte)
  /-- 0x39 AND `absy` (R144, R93) -/
  | andAbsy (a : Addr)
  /-- 0x3D AND `absx` (R144, R92) -/
  | andAbsx (a : Addr)
  /-- 0x01 ORA `indx` (R145, R95) -/
  | oraIndx (b : Byte)
  /-- 0x05 ORA `zp` (R145, R88) -/
  | oraZp (b : Byte)
  /-- 0x09 ORA `imm` (R145, R87) -/
  | oraImm (b : Byte)
  /-- 0x0D ORA `abs` (R145, R91) -/
  | oraAbs (a : Addr)
  /-- 0x11 ORA `indy` (R145, R96) -/
  | oraIndy (b : Byte)
  /-- 0x15 ORA `zpx` (R145, R89) -/
  | oraZpx (b : Byte)
  /-- 0x19 ORA `absy` (R145, R93) -/
  | oraAbsy (a : Addr)
  /-- 0x1D ORA `absx` (R145, R92) -/
  | oraAbsx (a : Addr)
  /-- 0x41 EOR `indx` (R146, R95) -/
  | eorIndx (b : Byte)
  /-- 0x45 EOR `zp` (R146, R88) -/
  | eorZp (b : Byte)
  /-- 0x49 EOR `imm` (R146, R87) -/
  | eorImm (b : Byte)
  /-- 0x4D EOR `abs` (R146, R91) -/
  | eorAbs (a : Addr)
  /-- 0x51 EOR `indy` (R146, R96) -/
  | eorIndy (b : Byte)
  /-- 0x55 EOR `zpx` (R146, R89) -/
  | eorZpx (b : Byte)
  /-- 0x59 EOR `absy` (R146, R93) -/
  | eorAbsy (a : Addr)
  /-- 0x5D EOR `absx` (R146, R92) -/
  | eorAbsx (a : Addr)
  /-- 0xC1 CMP `indx` (R147, R95) -/
  | cmpIndx (b : Byte)
  /-- 0xC5 CMP `zp` (R147, R88) -/
  | cmpZp (b : Byte)
  /-- 0xC9 CMP `imm` (R147, R87) -/
  | cmpImm (b : Byte)
  /-- 0xCD CMP `abs` (R147, R91) -/
  | cmpAbs (a : Addr)
  /-- 0xD1 CMP `indy` (R147, R96) -/
  | cmpIndy (b : Byte)
  /-- 0xD5 CMP `zpx` (R147, R89) -/
  | cmpZpx (b : Byte)
  /-- 0xD9 CMP `absy` (R147, R93) -/
  | cmpAbsy (a : Addr)
  /-- 0xDD CMP `absx` (R147, R92) -/
  | cmpAbsx (a : Addr)
  /-- 0xE0 CPX `imm` (R148, R87) -/
  | cpxImm (b : Byte)
  /-- 0xE4 CPX `zp` (R148, R88) -/
  | cpxZp (b : Byte)
  /-- 0xEC CPX `abs` (R148, R91) -/
  | cpxAbs (a : Addr)
  /-- 0xC0 CPY `imm` (R149, R87) -/
  | cpyImm (b : Byte)
  /-- 0xC4 CPY `zp` (R149, R88) -/
  | cpyZp (b : Byte)
  /-- 0xCC CPY `abs` (R149, R91) -/
  | cpyAbs (a : Addr)
  /-- 0x24 BIT `zp` (R150, R88) -/
  | bitZp (b : Byte)
  /-- 0x2C BIT `abs` (R150, R91) -/
  | bitAbs (a : Addr)
  /-- 0xE6 INC `zp` (R155, R88) -/
  | incZp (b : Byte)
  /-- 0xEE INC `abs` (R155, R91) -/
  | incAbs (a : Addr)
  /-- 0xF6 INC `zpx` (R155, R89) -/
  | incZpx (b : Byte)
  /-- 0xFE INC `absx` (R155, R92) -/
  | incAbsx (a : Addr)
  /-- 0xE8 INX `imp` (R156, R85) -/
  | inx
  /-- 0xC8 INY `imp` (R157, R85) -/
  | iny
  /-- 0xC6 DEC `zp` (R158, R88) -/
  | decZp (b : Byte)
  /-- 0xCE DEC `abs` (R158, R91) -/
  | decAbs (a : Addr)
  /-- 0xD6 DEC `zpx` (R158, R89) -/
  | decZpx (b : Byte)
  /-- 0xDE DEC `absx` (R158, R92) -/
  | decAbsx (a : Addr)
  /-- 0xCA DEX `imp` (R159, R85) -/
  | dex
  /-- 0x88 DEY `imp` (R160, R85) -/
  | dey
  /-- 0x06 ASL `zp` (R161, R88) -/
  | aslZp (b : Byte)
  /-- 0x0A ASL `acc` (R161, R86) -/
  | aslAcc
  /-- 0x0E ASL `abs` (R161, R91) -/
  | aslAbs (a : Addr)
  /-- 0x16 ASL `zpx` (R161, R89) -/
  | aslZpx (b : Byte)
  /-- 0x1E ASL `absx` (R161, R92) -/
  | aslAbsx (a : Addr)
  /-- 0x46 LSR `zp` (R162, R88) -/
  | lsrZp (b : Byte)
  /-- 0x4A LSR `acc` (R162, R86) -/
  | lsrAcc
  /-- 0x4E LSR `abs` (R162, R91) -/
  | lsrAbs (a : Addr)
  /-- 0x56 LSR `zpx` (R162, R89) -/
  | lsrZpx (b : Byte)
  /-- 0x5E LSR `absx` (R162, R92) -/
  | lsrAbsx (a : Addr)
  /-- 0x26 ROL `zp` (R163, R88) -/
  | rolZp (b : Byte)
  /-- 0x2A ROL `acc` (R163, R86) -/
  | rolAcc
  /-- 0x2E ROL `abs` (R163, R91) -/
  | rolAbs (a : Addr)
  /-- 0x36 ROL `zpx` (R163, R89) -/
  | rolZpx (b : Byte)
  /-- 0x3E ROL `absx` (R163, R92) -/
  | rolAbsx (a : Addr)
  /-- 0x66 ROR `zp` (R164, R88) -/
  | rorZp (b : Byte)
  /-- 0x6A ROR `acc` (R164, R86) -/
  | rorAcc
  /-- 0x6E ROR `abs` (R164, R91) -/
  | rorAbs (a : Addr)
  /-- 0x76 ROR `zpx` (R164, R89) -/
  | rorZpx (b : Byte)
  /-- 0x7E ROR `absx` (R164, R92) -/
  | rorAbsx (a : Addr)
  /-- 0x4C JMP `abs` (R175, R91) -/
  | jmpAbs (a : Addr)
  /-- 0x6C JMP `ind` (R176, R94) -/
  | jmpInd (a : Addr)
  /-- 0x20 JSR `abs` (R177, R91) -/
  | jsrAbs (a : Addr)
  /-- 0x60 RTS `imp` (R178, R85) -/
  | rts
  /-- 0x40 RTI `imp` (R179, R85) -/
  | rti
  /-- 0x00 BRK `imp` (R180, R85) -/
  | brk
  /-- 0x10 BPL `rel` (R182, R97) -/
  | bpl (off : Byte)
  /-- 0x30 BMI `rel` (R183, R97) -/
  | bmi (off : Byte)
  /-- 0x50 BVC `rel` (R184, R97) -/
  | bvc (off : Byte)
  /-- 0x70 BVS `rel` (R185, R97) -/
  | bvs (off : Byte)
  /-- 0x90 BCC `rel` (R186, R97) -/
  | bcc (off : Byte)
  /-- 0xB0 BCS `rel` (R187, R97) -/
  | bcs (off : Byte)
  /-- 0xD0 BNE `rel` (R188, R97) -/
  | bne (off : Byte)
  /-- 0xF0 BEQ `rel` (R189, R97) -/
  | beq (off : Byte)
  /-- 0x18 CLC `imp` (R200, R85) -/
  | clc
  /-- 0x38 SEC `imp` (R201, R85) -/
  | sec
  /-- 0x58 CLI `imp` (R202, R85) -/
  | cli
  /-- 0x78 SEI `imp` (R203, R85) -/
  | sei
  /-- 0xB8 CLV `imp` (R204, R85) -/
  | clv
  /-- 0xD8 CLD `imp` (R205, R85) -/
  | cld
  /-- 0xF8 SED `imp` (R206, R85) -/
  | sed
  /-- 0xEA NOP `imp` (R207, R85) -/
  | nop
deriving DecidableEq, Repr

end Sys2Proof
end

