-- ==== Sys2Proof/WellFormed.lean ====
section
/-! DEFINITION. When an encoded instruction (a table row with its operand bytes) is well formed: spec/30_encoding.md R82,
R84, R99, R100, R104. Operand bytes are unconstrained (R101), and the operands of `Instr` are bit vectors of the operand's
width, so the checks are about the encoding: the opcode byte, the number of operand bytes, the cost and the flag. -/

namespace Sys2Proof

/-- Instruction length in bytes, "a function of the addressing mode alone" (R82, R84). -/
def Mode.length : Mode → Nat
  | .imp | .acc => 1
  | .imm | .zp | .zpx | .zpy | .indx | .indy | .rel => 2
  | .abs | .absx | .absy | .ind => 3

/-- The 105 illegal opcode byte values, as R100 lists them. -/
def illegalOpcodes : List Nat :=
  [0x02, 0x03, 0x04, 0x07, 0x0B, 0x0C, 0x0F, 0x12, 0x13, 0x14, 0x17, 0x1A, 0x1B, 0x1C, 0x1F] ++
  [0x22, 0x23, 0x27, 0x2B, 0x2F, 0x32, 0x33, 0x34, 0x37, 0x3A, 0x3B, 0x3C, 0x3F, 0x42, 0x43] ++
  [0x44, 0x47, 0x4B, 0x4F, 0x52, 0x53, 0x54, 0x57, 0x5A, 0x5B, 0x5C, 0x5F, 0x62, 0x63, 0x64] ++
  [0x67, 0x6B, 0x6F, 0x72, 0x73, 0x74, 0x77, 0x7A, 0x7B, 0x7C, 0x7F, 0x80, 0x82, 0x83, 0x87] ++
  [0x89, 0x8B, 0x8F, 0x92, 0x93, 0x97, 0x9B, 0x9C, 0x9E, 0x9F, 0xA3, 0xA7, 0xAB, 0xAF, 0xB2] ++
  [0xB3, 0xB7, 0xBB, 0xBF, 0xC2, 0xC3, 0xC7, 0xCB, 0xCF, 0xD2, 0xD3, 0xD4, 0xD7, 0xDA, 0xDB] ++
  [0xDC, 0xDF, 0xE2, 0xE3, 0xE7, 0xEB, 0xEF, 0xF2, 0xF3, 0xF4, 0xF7, 0xFA, 0xFB, 0xFC, 0xFF]

/-- An encoded instruction: its table row and the operand bytes that follow the opcode byte. -/
structure Encoded where
  row : OpRow
  operands : List Byte
deriving DecidableEq, Repr

/-- The opcode byte is not one of R100's. -/
def Encoded.legal (e : Encoded) : Bool := !illegalOpcodes.contains e.row.opcode.toNat

/-- As many operand bytes as the mode's length asks for (R82, R84). -/
def Encoded.complete (e : Encoded) : Bool := e.operands.length + 1 == e.row.mode.length

/-- The page-cross flag stands only in rows of the modes that report a page crossing (R104). -/
def Encoded.flagOk (e : Encoded) : Bool := !e.row.pageCross || [Mode.absx, .absy, .indy].contains e.row.mode

/-- A base cost of the table lies between 2 and 7 (R99, R332). -/
def Encoded.costOk (e : Encoded) : Bool := Nat.ble 2 e.row.base && Nat.ble e.row.base 7

/-- A well-formed encoded instruction. -/
def Encoded.wf (e : Encoded) : Bool := e.legal && e.complete && e.flagOk && e.costOk

end Sys2Proof
end

