-- ==== Sys2Proof/Decode.lean ====
section
/-! DEFINITION. Decoding bytes to an instruction and encoding an instruction to bytes (spec/30_encoding.md R80, R82 to R84,
R99, R100), with the helpers that take words apart and put them together. Decode is "a 256-entry lookup" (R82): no bit of
the opcode byte has a meaning of its own. -/

namespace Sys2Proof

/-! ## Bytes and words -/

/-- `v & 0xFF` of a 16-bit word. -/
def lo (w : Addr) : Byte := w.extractLsb' 0 8

/-- `v >> 8` of a 16-bit word. -/
def hi (w : Addr) : Byte := w.extractLsb' 8 8

/-- `(h << 8) | l` (spec/00_scope.md section 6, spec/20_memory.md R53). -/
def word (h l : Byte) : Addr := h ++ l

/-- A byte as an address of page zero. -/
def zext (b : Byte) : Addr := b.setWidth 16

/-- `sext_8(b)` added to an address is the addition of this word (R97). -/
def sext (b : Byte) : Addr := b.signExtend 16

/-! ## The opcode table (R99) -/

/-- The table row of an instruction. -/
def Instr.row : Instr → OpRow
  | .ldaIndx _ => ⟨0xA1, .lda, .indx, 6, false⟩
  | .ldaZp _ => ⟨0xA5, .lda, .zp, 3, false⟩
  | .ldaImm _ => ⟨0xA9, .lda, .imm, 2, false⟩
  | .ldaAbs _ => ⟨0xAD, .lda, .abs, 4, false⟩
  | .ldaIndy _ => ⟨0xB1, .lda, .indy, 5, true⟩
  | .ldaZpx _ => ⟨0xB5, .lda, .zpx, 4, false⟩
  | .ldaAbsy _ => ⟨0xB9, .lda, .absy, 4, true⟩
  | .ldaAbsx _ => ⟨0xBD, .lda, .absx, 4, true⟩
  | .ldxImm _ => ⟨0xA2, .ldx, .imm, 2, false⟩
  | .ldxZp _ => ⟨0xA6, .ldx, .zp, 3, false⟩
  | .ldxAbs _ => ⟨0xAE, .ldx, .abs, 4, false⟩
  | .ldxZpy _ => ⟨0xB6, .ldx, .zpy, 4, false⟩
  | .ldxAbsy _ => ⟨0xBE, .ldx, .absy, 4, true⟩
  | .ldyImm _ => ⟨0xA0, .ldy, .imm, 2, false⟩
  | .ldyZp _ => ⟨0xA4, .ldy, .zp, 3, false⟩
  | .ldyAbs _ => ⟨0xAC, .ldy, .abs, 4, false⟩
  | .ldyZpx _ => ⟨0xB4, .ldy, .zpx, 4, false⟩
  | .ldyAbsx _ => ⟨0xBC, .ldy, .absx, 4, true⟩
  | .staIndx _ => ⟨0x81, .sta, .indx, 6, false⟩
  | .staZp _ => ⟨0x85, .sta, .zp, 3, false⟩
  | .staAbs _ => ⟨0x8D, .sta, .abs, 4, false⟩
  | .staIndy _ => ⟨0x91, .sta, .indy, 6, false⟩
  | .staZpx _ => ⟨0x95, .sta, .zpx, 4, false⟩
  | .staAbsy _ => ⟨0x99, .sta, .absy, 5, false⟩
  | .staAbsx _ => ⟨0x9D, .sta, .absx, 5, false⟩
  | .stxZp _ => ⟨0x86, .stx, .zp, 3, false⟩
  | .stxAbs _ => ⟨0x8E, .stx, .abs, 4, false⟩
  | .stxZpy _ => ⟨0x96, .stx, .zpy, 4, false⟩
  | .styZp _ => ⟨0x84, .sty, .zp, 3, false⟩
  | .styAbs _ => ⟨0x8C, .sty, .abs, 4, false⟩
  | .styZpx _ => ⟨0x94, .sty, .zpx, 4, false⟩
  | .tax => ⟨0xAA, .tax, .imp, 2, false⟩
  | .tay => ⟨0xA8, .tay, .imp, 2, false⟩
  | .txa => ⟨0x8A, .txa, .imp, 2, false⟩
  | .tya => ⟨0x98, .tya, .imp, 2, false⟩
  | .tsx => ⟨0xBA, .tsx, .imp, 2, false⟩
  | .txs => ⟨0x9A, .txs, .imp, 2, false⟩
  | .pha => ⟨0x48, .pha, .imp, 3, false⟩
  | .php => ⟨0x08, .php, .imp, 3, false⟩
  | .pla => ⟨0x68, .pla, .imp, 4, false⟩
  | .plp => ⟨0x28, .plp, .imp, 4, false⟩
  | .adcIndx _ => ⟨0x61, .adc, .indx, 6, false⟩
  | .adcZp _ => ⟨0x65, .adc, .zp, 3, false⟩
  | .adcImm _ => ⟨0x69, .adc, .imm, 2, false⟩
  | .adcAbs _ => ⟨0x6D, .adc, .abs, 4, false⟩
  | .adcIndy _ => ⟨0x71, .adc, .indy, 5, true⟩
  | .adcZpx _ => ⟨0x75, .adc, .zpx, 4, false⟩
  | .adcAbsy _ => ⟨0x79, .adc, .absy, 4, true⟩
  | .adcAbsx _ => ⟨0x7D, .adc, .absx, 4, true⟩
  | .sbcIndx _ => ⟨0xE1, .sbc, .indx, 6, false⟩
  | .sbcZp _ => ⟨0xE5, .sbc, .zp, 3, false⟩
  | .sbcImm _ => ⟨0xE9, .sbc, .imm, 2, false⟩
  | .sbcAbs _ => ⟨0xED, .sbc, .abs, 4, false⟩
  | .sbcIndy _ => ⟨0xF1, .sbc, .indy, 5, true⟩
  | .sbcZpx _ => ⟨0xF5, .sbc, .zpx, 4, false⟩
  | .sbcAbsy _ => ⟨0xF9, .sbc, .absy, 4, true⟩
  | .sbcAbsx _ => ⟨0xFD, .sbc, .absx, 4, true⟩
  | .andIndx _ => ⟨0x21, .and, .indx, 6, false⟩
  | .andZp _ => ⟨0x25, .and, .zp, 3, false⟩
  | .andImm _ => ⟨0x29, .and, .imm, 2, false⟩
  | .andAbs _ => ⟨0x2D, .and, .abs, 4, false⟩
  | .andIndy _ => ⟨0x31, .and, .indy, 5, true⟩
  | .andZpx _ => ⟨0x35, .and, .zpx, 4, false⟩
  | .andAbsy _ => ⟨0x39, .and, .absy, 4, true⟩
  | .andAbsx _ => ⟨0x3D, .and, .absx, 4, true⟩
  | .oraIndx _ => ⟨0x01, .ora, .indx, 6, false⟩
  | .oraZp _ => ⟨0x05, .ora, .zp, 3, false⟩
  | .oraImm _ => ⟨0x09, .ora, .imm, 2, false⟩
  | .oraAbs _ => ⟨0x0D, .ora, .abs, 4, false⟩
  | .oraIndy _ => ⟨0x11, .ora, .indy, 5, true⟩
  | .oraZpx _ => ⟨0x15, .ora, .zpx, 4, false⟩
  | .oraAbsy _ => ⟨0x19, .ora, .absy, 4, true⟩
  | .oraAbsx _ => ⟨0x1D, .ora, .absx, 4, true⟩
  | .eorIndx _ => ⟨0x41, .eor, .indx, 6, false⟩
  | .eorZp _ => ⟨0x45, .eor, .zp, 3, false⟩
  | .eorImm _ => ⟨0x49, .eor, .imm, 2, false⟩
  | .eorAbs _ => ⟨0x4D, .eor, .abs, 4, false⟩
  | .eorIndy _ => ⟨0x51, .eor, .indy, 5, true⟩
  | .eorZpx _ => ⟨0x55, .eor, .zpx, 4, false⟩
  | .eorAbsy _ => ⟨0x59, .eor, .absy, 4, true⟩
  | .eorAbsx _ => ⟨0x5D, .eor, .absx, 4, true⟩
  | .cmpIndx _ => ⟨0xC1, .cmp, .indx, 6, false⟩
  | .cmpZp _ => ⟨0xC5, .cmp, .zp, 3, false⟩
  | .cmpImm _ => ⟨0xC9, .cmp, .imm, 2, false⟩
  | .cmpAbs _ => ⟨0xCD, .cmp, .abs, 4, false⟩
  | .cmpIndy _ => ⟨0xD1, .cmp, .indy, 5, true⟩
  | .cmpZpx _ => ⟨0xD5, .cmp, .zpx, 4, false⟩
  | .cmpAbsy _ => ⟨0xD9, .cmp, .absy, 4, true⟩
  | .cmpAbsx _ => ⟨0xDD, .cmp, .absx, 4, true⟩
  | .cpxImm _ => ⟨0xE0, .cpx, .imm, 2, false⟩
  | .cpxZp _ => ⟨0xE4, .cpx, .zp, 3, false⟩
  | .cpxAbs _ => ⟨0xEC, .cpx, .abs, 4, false⟩
  | .cpyImm _ => ⟨0xC0, .cpy, .imm, 2, false⟩
  | .cpyZp _ => ⟨0xC4, .cpy, .zp, 3, false⟩
  | .cpyAbs _ => ⟨0xCC, .cpy, .abs, 4, false⟩
  | .bitZp _ => ⟨0x24, .bit, .zp, 3, false⟩
  | .bitAbs _ => ⟨0x2C, .bit, .abs, 4, false⟩
  | .incZp _ => ⟨0xE6, .inc, .zp, 5, false⟩
  | .incAbs _ => ⟨0xEE, .inc, .abs, 6, false⟩
  | .incZpx _ => ⟨0xF6, .inc, .zpx, 6, false⟩
  | .incAbsx _ => ⟨0xFE, .inc, .absx, 7, false⟩
  | .inx => ⟨0xE8, .inx, .imp, 2, false⟩
  | .iny => ⟨0xC8, .iny, .imp, 2, false⟩
  | .decZp _ => ⟨0xC6, .dec, .zp, 5, false⟩
  | .decAbs _ => ⟨0xCE, .dec, .abs, 6, false⟩
  | .decZpx _ => ⟨0xD6, .dec, .zpx, 6, false⟩
  | .decAbsx _ => ⟨0xDE, .dec, .absx, 7, false⟩
  | .dex => ⟨0xCA, .dex, .imp, 2, false⟩
  | .dey => ⟨0x88, .dey, .imp, 2, false⟩
  | .aslZp _ => ⟨0x06, .asl, .zp, 5, false⟩
  | .aslAcc => ⟨0x0A, .asl, .acc, 2, false⟩
  | .aslAbs _ => ⟨0x0E, .asl, .abs, 6, false⟩
  | .aslZpx _ => ⟨0x16, .asl, .zpx, 6, false⟩
  | .aslAbsx _ => ⟨0x1E, .asl, .absx, 7, false⟩
  | .lsrZp _ => ⟨0x46, .lsr, .zp, 5, false⟩
  | .lsrAcc => ⟨0x4A, .lsr, .acc, 2, false⟩
  | .lsrAbs _ => ⟨0x4E, .lsr, .abs, 6, false⟩
  | .lsrZpx _ => ⟨0x56, .lsr, .zpx, 6, false⟩
  | .lsrAbsx _ => ⟨0x5E, .lsr, .absx, 7, false⟩
  | .rolZp _ => ⟨0x26, .rol, .zp, 5, false⟩
  | .rolAcc => ⟨0x2A, .rol, .acc, 2, false⟩
  | .rolAbs _ => ⟨0x2E, .rol, .abs, 6, false⟩
  | .rolZpx _ => ⟨0x36, .rol, .zpx, 6, false⟩
  | .rolAbsx _ => ⟨0x3E, .rol, .absx, 7, false⟩
  | .rorZp _ => ⟨0x66, .ror, .zp, 5, false⟩
  | .rorAcc => ⟨0x6A, .ror, .acc, 2, false⟩
  | .rorAbs _ => ⟨0x6E, .ror, .abs, 6, false⟩
  | .rorZpx _ => ⟨0x76, .ror, .zpx, 6, false⟩
  | .rorAbsx _ => ⟨0x7E, .ror, .absx, 7, false⟩
  | .jmpAbs _ => ⟨0x4C, .jmp, .abs, 3, false⟩
  | .jmpInd _ => ⟨0x6C, .jmp, .ind, 5, false⟩
  | .jsrAbs _ => ⟨0x20, .jsr, .abs, 6, false⟩
  | .rts => ⟨0x60, .rts, .imp, 6, false⟩
  | .rti => ⟨0x40, .rti, .imp, 6, false⟩
  | .brk => ⟨0x00, .brk, .imp, 7, false⟩
  | .bpl _ => ⟨0x10, .bpl, .rel, 2, false⟩
  | .bmi _ => ⟨0x30, .bmi, .rel, 2, false⟩
  | .bvc _ => ⟨0x50, .bvc, .rel, 2, false⟩
  | .bvs _ => ⟨0x70, .bvs, .rel, 2, false⟩
  | .bcc _ => ⟨0x90, .bcc, .rel, 2, false⟩
  | .bcs _ => ⟨0xB0, .bcs, .rel, 2, false⟩
  | .bne _ => ⟨0xD0, .bne, .rel, 2, false⟩
  | .beq _ => ⟨0xF0, .beq, .rel, 2, false⟩
  | .clc => ⟨0x18, .clc, .imp, 2, false⟩
  | .sec => ⟨0x38, .sec, .imp, 2, false⟩
  | .cli => ⟨0x58, .cli, .imp, 2, false⟩
  | .sei => ⟨0x78, .sei, .imp, 2, false⟩
  | .clv => ⟨0xB8, .clv, .imp, 2, false⟩
  | .cld => ⟨0xD8, .cld, .imp, 2, false⟩
  | .sed => ⟨0xF8, .sed, .imp, 2, false⟩
  | .nop => ⟨0xEA, .nop, .imp, 2, false⟩

/-- The operand bytes of an instruction: byte 1, then byte 2 (R82, R83). -/
def Instr.operands : Instr → List Byte
  | .ldaIndx b => [b]
  | .ldaZp b => [b]
  | .ldaImm b => [b]
  | .ldaAbs a => [lo a, hi a]
  | .ldaIndy b => [b]
  | .ldaZpx b => [b]
  | .ldaAbsy a => [lo a, hi a]
  | .ldaAbsx a => [lo a, hi a]
  | .ldxImm b => [b]
  | .ldxZp b => [b]
  | .ldxAbs a => [lo a, hi a]
  | .ldxZpy b => [b]
  | .ldxAbsy a => [lo a, hi a]
  | .ldyImm b => [b]
  | .ldyZp b => [b]
  | .ldyAbs a => [lo a, hi a]
  | .ldyZpx b => [b]
  | .ldyAbsx a => [lo a, hi a]
  | .staIndx b => [b]
  | .staZp b => [b]
  | .staAbs a => [lo a, hi a]
  | .staIndy b => [b]
  | .staZpx b => [b]
  | .staAbsy a => [lo a, hi a]
  | .staAbsx a => [lo a, hi a]
  | .stxZp b => [b]
  | .stxAbs a => [lo a, hi a]
  | .stxZpy b => [b]
  | .styZp b => [b]
  | .styAbs a => [lo a, hi a]
  | .styZpx b => [b]
  | .tax => []
  | .tay => []
  | .txa => []
  | .tya => []
  | .tsx => []
  | .txs => []
  | .pha => []
  | .php => []
  | .pla => []
  | .plp => []
  | .adcIndx b => [b]
  | .adcZp b => [b]
  | .adcImm b => [b]
  | .adcAbs a => [lo a, hi a]
  | .adcIndy b => [b]
  | .adcZpx b => [b]
  | .adcAbsy a => [lo a, hi a]
  | .adcAbsx a => [lo a, hi a]
  | .sbcIndx b => [b]
  | .sbcZp b => [b]
  | .sbcImm b => [b]
  | .sbcAbs a => [lo a, hi a]
  | .sbcIndy b => [b]
  | .sbcZpx b => [b]
  | .sbcAbsy a => [lo a, hi a]
  | .sbcAbsx a => [lo a, hi a]
  | .andIndx b => [b]
  | .andZp b => [b]
  | .andImm b => [b]
  | .andAbs a => [lo a, hi a]
  | .andIndy b => [b]
  | .andZpx b => [b]
  | .andAbsy a => [lo a, hi a]
  | .andAbsx a => [lo a, hi a]
  | .oraIndx b => [b]
  | .oraZp b => [b]
  | .oraImm b => [b]
  | .oraAbs a => [lo a, hi a]
  | .oraIndy b => [b]
  | .oraZpx b => [b]
  | .oraAbsy a => [lo a, hi a]
  | .oraAbsx a => [lo a, hi a]
  | .eorIndx b => [b]
  | .eorZp b => [b]
  | .eorImm b => [b]
  | .eorAbs a => [lo a, hi a]
  | .eorIndy b => [b]
  | .eorZpx b => [b]
  | .eorAbsy a => [lo a, hi a]
  | .eorAbsx a => [lo a, hi a]
  | .cmpIndx b => [b]
  | .cmpZp b => [b]
  | .cmpImm b => [b]
  | .cmpAbs a => [lo a, hi a]
  | .cmpIndy b => [b]
  | .cmpZpx b => [b]
  | .cmpAbsy a => [lo a, hi a]
  | .cmpAbsx a => [lo a, hi a]
  | .cpxImm b => [b]
  | .cpxZp b => [b]
  | .cpxAbs a => [lo a, hi a]
  | .cpyImm b => [b]
  | .cpyZp b => [b]
  | .cpyAbs a => [lo a, hi a]
  | .bitZp b => [b]
  | .bitAbs a => [lo a, hi a]
  | .incZp b => [b]
  | .incAbs a => [lo a, hi a]
  | .incZpx b => [b]
  | .incAbsx a => [lo a, hi a]
  | .inx => []
  | .iny => []
  | .decZp b => [b]
  | .decAbs a => [lo a, hi a]
  | .decZpx b => [b]
  | .decAbsx a => [lo a, hi a]
  | .dex => []
  | .dey => []
  | .aslZp b => [b]
  | .aslAcc => []
  | .aslAbs a => [lo a, hi a]
  | .aslZpx b => [b]
  | .aslAbsx a => [lo a, hi a]
  | .lsrZp b => [b]
  | .lsrAcc => []
  | .lsrAbs a => [lo a, hi a]
  | .lsrZpx b => [b]
  | .lsrAbsx a => [lo a, hi a]
  | .rolZp b => [b]
  | .rolAcc => []
  | .rolAbs a => [lo a, hi a]
  | .rolZpx b => [b]
  | .rolAbsx a => [lo a, hi a]
  | .rorZp b => [b]
  | .rorAcc => []
  | .rorAbs a => [lo a, hi a]
  | .rorZpx b => [b]
  | .rorAbsx a => [lo a, hi a]
  | .jmpAbs a => [lo a, hi a]
  | .jmpInd a => [lo a, hi a]
  | .jsrAbs a => [lo a, hi a]
  | .rts => []
  | .rti => []
  | .brk => []
  | .bpl b => [b]
  | .bmi b => [b]
  | .bvc b => [b]
  | .bvs b => [b]
  | .bcc b => [b]
  | .bcs b => [b]
  | .bne b => [b]
  | .beq b => [b]
  | .clc => []
  | .sec => []
  | .cli => []
  | .sei => []
  | .clv => []
  | .cld => []
  | .sed => []
  | .nop => []

/-- Instruction length in bytes (R84). -/
def Instr.length (i : Instr) : Nat := i.row.mode.length

/-- The instruction an opcode byte and the two bytes after it stand for; `none` for an illegal byte (R100). An
instruction shorter than three bytes ignores the bytes it does not have. -/
def ofOpcode (op b1 b2 : Byte) : Option Instr :=
  match op.toNat with
  | 0x00 => some .brk
  | 0x01 => some (.oraIndx b1)
  | 0x05 => some (.oraZp b1)
  | 0x06 => some (.aslZp b1)
  | 0x08 => some .php
  | 0x09 => some (.oraImm b1)
  | 0x0A => some .aslAcc
  | 0x0D => some (.oraAbs (word b2 b1))
  | 0x0E => some (.aslAbs (word b2 b1))
  | 0x10 => some (.bpl b1)
  | 0x11 => some (.oraIndy b1)
  | 0x15 => some (.oraZpx b1)
  | 0x16 => some (.aslZpx b1)
  | 0x18 => some .clc
  | 0x19 => some (.oraAbsy (word b2 b1))
  | 0x1D => some (.oraAbsx (word b2 b1))
  | 0x1E => some (.aslAbsx (word b2 b1))
  | 0x20 => some (.jsrAbs (word b2 b1))
  | 0x21 => some (.andIndx b1)
  | 0x24 => some (.bitZp b1)
  | 0x25 => some (.andZp b1)
  | 0x26 => some (.rolZp b1)
  | 0x28 => some .plp
  | 0x29 => some (.andImm b1)
  | 0x2A => some .rolAcc
  | 0x2C => some (.bitAbs (word b2 b1))
  | 0x2D => some (.andAbs (word b2 b1))
  | 0x2E => some (.rolAbs (word b2 b1))
  | 0x30 => some (.bmi b1)
  | 0x31 => some (.andIndy b1)
  | 0x35 => some (.andZpx b1)
  | 0x36 => some (.rolZpx b1)
  | 0x38 => some .sec
  | 0x39 => some (.andAbsy (word b2 b1))
  | 0x3D => some (.andAbsx (word b2 b1))
  | 0x3E => some (.rolAbsx (word b2 b1))
  | 0x40 => some .rti
  | 0x41 => some (.eorIndx b1)
  | 0x45 => some (.eorZp b1)
  | 0x46 => some (.lsrZp b1)
  | 0x48 => some .pha
  | 0x49 => some (.eorImm b1)
  | 0x4A => some .lsrAcc
  | 0x4C => some (.jmpAbs (word b2 b1))
  | 0x4D => some (.eorAbs (word b2 b1))
  | 0x4E => some (.lsrAbs (word b2 b1))
  | 0x50 => some (.bvc b1)
  | 0x51 => some (.eorIndy b1)
  | 0x55 => some (.eorZpx b1)
  | 0x56 => some (.lsrZpx b1)
  | 0x58 => some .cli
  | 0x59 => some (.eorAbsy (word b2 b1))
  | 0x5D => some (.eorAbsx (word b2 b1))
  | 0x5E => some (.lsrAbsx (word b2 b1))
  | 0x60 => some .rts
  | 0x61 => some (.adcIndx b1)
  | 0x65 => some (.adcZp b1)
  | 0x66 => some (.rorZp b1)
  | 0x68 => some .pla
  | 0x69 => some (.adcImm b1)
  | 0x6A => some .rorAcc
  | 0x6C => some (.jmpInd (word b2 b1))
  | 0x6D => some (.adcAbs (word b2 b1))
  | 0x6E => some (.rorAbs (word b2 b1))
  | 0x70 => some (.bvs b1)
  | 0x71 => some (.adcIndy b1)
  | 0x75 => some (.adcZpx b1)
  | 0x76 => some (.rorZpx b1)
  | 0x78 => some .sei
  | 0x79 => some (.adcAbsy (word b2 b1))
  | 0x7D => some (.adcAbsx (word b2 b1))
  | 0x7E => some (.rorAbsx (word b2 b1))
  | 0x81 => some (.staIndx b1)
  | 0x84 => some (.styZp b1)
  | 0x85 => some (.staZp b1)
  | 0x86 => some (.stxZp b1)
  | 0x88 => some .dey
  | 0x8A => some .txa
  | 0x8C => some (.styAbs (word b2 b1))
  | 0x8D => some (.staAbs (word b2 b1))
  | 0x8E => some (.stxAbs (word b2 b1))
  | 0x90 => some (.bcc b1)
  | 0x91 => some (.staIndy b1)
  | 0x94 => some (.styZpx b1)
  | 0x95 => some (.staZpx b1)
  | 0x96 => some (.stxZpy b1)
  | 0x98 => some .tya
  | 0x99 => some (.staAbsy (word b2 b1))
  | 0x9A => some .txs
  | 0x9D => some (.staAbsx (word b2 b1))
  | 0xA0 => some (.ldyImm b1)
  | 0xA1 => some (.ldaIndx b1)
  | 0xA2 => some (.ldxImm b1)
  | 0xA4 => some (.ldyZp b1)
  | 0xA5 => some (.ldaZp b1)
  | 0xA6 => some (.ldxZp b1)
  | 0xA8 => some .tay
  | 0xA9 => some (.ldaImm b1)
  | 0xAA => some .tax
  | 0xAC => some (.ldyAbs (word b2 b1))
  | 0xAD => some (.ldaAbs (word b2 b1))
  | 0xAE => some (.ldxAbs (word b2 b1))
  | 0xB0 => some (.bcs b1)
  | 0xB1 => some (.ldaIndy b1)
  | 0xB4 => some (.ldyZpx b1)
  | 0xB5 => some (.ldaZpx b1)
  | 0xB6 => some (.ldxZpy b1)
  | 0xB8 => some .clv
  | 0xB9 => some (.ldaAbsy (word b2 b1))
  | 0xBA => some .tsx
  | 0xBC => some (.ldyAbsx (word b2 b1))
  | 0xBD => some (.ldaAbsx (word b2 b1))
  | 0xBE => some (.ldxAbsy (word b2 b1))
  | 0xC0 => some (.cpyImm b1)
  | 0xC1 => some (.cmpIndx b1)
  | 0xC4 => some (.cpyZp b1)
  | 0xC5 => some (.cmpZp b1)
  | 0xC6 => some (.decZp b1)
  | 0xC8 => some .iny
  | 0xC9 => some (.cmpImm b1)
  | 0xCA => some .dex
  | 0xCC => some (.cpyAbs (word b2 b1))
  | 0xCD => some (.cmpAbs (word b2 b1))
  | 0xCE => some (.decAbs (word b2 b1))
  | 0xD0 => some (.bne b1)
  | 0xD1 => some (.cmpIndy b1)
  | 0xD5 => some (.cmpZpx b1)
  | 0xD6 => some (.decZpx b1)
  | 0xD8 => some .cld
  | 0xD9 => some (.cmpAbsy (word b2 b1))
  | 0xDD => some (.cmpAbsx (word b2 b1))
  | 0xDE => some (.decAbsx (word b2 b1))
  | 0xE0 => some (.cpxImm b1)
  | 0xE1 => some (.sbcIndx b1)
  | 0xE4 => some (.cpxZp b1)
  | 0xE5 => some (.sbcZp b1)
  | 0xE6 => some (.incZp b1)
  | 0xE8 => some .inx
  | 0xE9 => some (.sbcImm b1)
  | 0xEA => some .nop
  | 0xEC => some (.cpxAbs (word b2 b1))
  | 0xED => some (.sbcAbs (word b2 b1))
  | 0xEE => some (.incAbs (word b2 b1))
  | 0xF0 => some (.beq b1)
  | 0xF1 => some (.sbcIndy b1)
  | 0xF5 => some (.sbcZpx b1)
  | 0xF6 => some (.incZpx b1)
  | 0xF8 => some .sed
  | 0xF9 => some (.sbcAbsy (word b2 b1))
  | 0xFD => some (.sbcAbsx (word b2 b1))
  | 0xFE => some (.incAbsx (word b2 b1))
  | _ => none

/-- The length the table gives an opcode byte: "a decoder reads byte 0, looks it up, and knows the length"; an illegal
byte has none (R84). -/
def opcodeLength (op : Byte) : Option Nat := (ofOpcode op 0 0).map Instr.length

/-- Why bytes are no instruction. -/
inductive DecodeError where
  /-- The bytes end before the instruction does (only in a list of bytes; the bus never ends). -/
  | truncated
  /-- One of the 105 bytes of R100. -/
  | illegalOpcode (op : Byte)
deriving DecidableEq, Repr

/-- The decoder: the first instruction of a list of bytes and the bytes after it. -/
def decode : List Byte → Except DecodeError (Instr × List Byte)
  | [] => .error .truncated
  | op :: rest =>
    match opcodeLength op with
    | none => .error (.illegalOpcode op)
    | some n =>
      if rest.length + 1 < n then .error .truncated
      else
        match ofOpcode op (rest.getD 0 0) (rest.getD 1 0) with
        | none => .error (.illegalOpcode op)
        | some i => .ok (i, rest.drop (n - 1))

/-! ## The encoder -/

/-- An instruction as a table row with its operand bytes. -/
def Instr.encoded (i : Instr) : Encoded := { row := i.row, operands := i.operands }

/-- Well-formed instructions (WellFormed.lean). -/
def Instr.wf (i : Instr) : Bool := i.encoded.wf

/-- The bytes of an instruction, lowest address first (R82). -/
def encode (i : Instr) : List Byte := i.row.opcode :: i.operands

/-! ## The host's table words -/

/-- The three bytes of a table word: bit 0 of the word is bit 0 of byte 0, bits 15..8 are byte 1, bits 23..16 are byte 2;
bits at and above `nbits` are 0. -/
def tableBytes (nbits w : Nat) : List Byte :=
  let v := w % 2 ^ nbits
  [BitVec.ofNat 8 v, BitVec.ofNat 8 (v / 0x100), BitVec.ofNat 8 (v / 0x10000)]

/-- What the decoder reads from a table word. -/
def decodeTableWord (nbits w : Nat) : Option Instr :=
  match decode (tableBytes nbits w) with
  | .ok r => some r.1
  | .error _ => none

end Sys2Proof
end

