-- ==== Sys2Proof/Machine/State.lean ====
section
/-! DEFINITION. The machine's state: every piece of state of spec/10_state.md, and the two records of what is fixed for
one machine (the cartridge and the parameters, log 5). Plain data. The `set…` functions replace one field each. -/

namespace Sys2Proof.Machine

/-- Why the machine stops. -/
inductive Fault where
  /-- The machine is halted by an illegal opcode byte `op` fetched at `addr` (spec/60_exceptions.md R271, R297). Raised by
  `step` in every state whose `halted` latch is set, and by nothing else. It is the spec's own fatal error: safe. -/
  | illegalOpcode (op : Byte) (addr : Addr)
deriving DecidableEq, Repr

/-- Why an instruction has no meaning in this model. -/
inductive Refusal where
  /-- An instruction the model does not cover. No arm of `exec` raises it: all 151 rows have their meaning. Safe. -/
  | notModelled (mnemonic : String)
deriving DecidableEq, Repr

/-- The record `IllegalOpcode(op, addr)` of the `halted` latch (spec/10_state.md R17). -/
structure Halt where
  op : Byte
  addr : Addr
deriving DecidableEq, Repr

/-- Which access an AddressError reports (R17). -/
inductive AccessKind where
  | read
  | write
deriving DecidableEq, Repr

/-- The record `(addr, kind)` of the most recent refused SRAM access (R17). -/
structure AddrError where
  addr : Addr
  kind : AccessKind
deriving DecidableEq, Repr

/-- The PPU's stages (R27). -/
inductive Stage where
  | preRendering
  | rendering
  | postRendering
deriving DecidableEq, Repr

/-- The PPU register file (R20 to R27). -/
structure Ppu where
  /-- control (R21) -/
  ctrl : Byte
  /-- mask (R22) -/
  mask : Byte
  /-- the status register's vblank flag (R23) -/
  vblank : Bool
  /-- OAM address (R24) -/
  oamAddr : Byte
  /-- OAM-DMA trigger (R24) -/
  oamDma : Byte
  /-- the data port's PPU-bus address, 14 bits (R25) -/
  vaddr : PAddr
  /-- the data port's read buffer (R25) -/
  readBuf : Byte
  /-- horizontal scroll, 0 to 511 (R26) -/
  xScroll : Nat
  /-- vertical scroll, 0 to 479 (R26) -/
  yScroll : Nat
  /-- the first-write toggle; false: the next write is the first (R26) -/
  w : Bool
  /-- 0 to 340 (R27) -/
  cycle : Nat
  /-- 0 to 261 (R27) -/
  scanline : Nat
  stage : Stage
  /-- true on an odd frame (R27) -/
  parity : Bool
deriving DecidableEq, Repr

/-- The state of the whole machine. -/
structure State where
  /-- accumulator `x[A]` (R11) -/
  a : Byte
  /-- index register `x[X]` (R11) -/
  x : Byte
  /-- index register `x[Y]` (R11) -/
  y : Byte
  /-- stack pointer `x[S]` (R12) -/
  sp : Byte
  /-- status flags `x[P]` (R14) -/
  p : Byte
  /-- program counter (R13) -/
  pc : Addr
  /-- cycle counter `cpu.cycles` (R15) -/
  cycles : BitVec 64
  /-- pending-cycle counter `cpu.pending` (R16) -/
  pending : Nat
  /-- the fatal latch (R17) -/
  halted : Option Halt
  /-- the most recent AddressError (R17) -/
  addrError : Option AddrError
  /-- how many AddressErrors so far (R17) -/
  addrErrorCount : Nat
  /-- the interrupt controller's latch (R19) -/
  nmiLatch : Bool
  /-- internal RAM, indexes 0 to 2047 (R18) -/
  ram : Memory
  ppu : Ppu
  /-- nametable VRAM, indexes 0 to 2047 (R28) -/
  vram : Memory
  /-- OAM, indexes 0 to 255 (R28) -/
  oam : Memory
  /-- palette RAM, indexes 0 to 31 (R28) -/
  pal : Memory
  /-- frame buffer, indexes 0 to 61439 (R29) -/
  fb : Memory
  /-- a complete frame stands in the frame buffer (R29) -/
  frameReady : Bool
  /-- cartridge SRAM, indexes 0 to 8191 when present (R30) -/
  sram : Memory
  /-- the count of `Tick` calls (R31) -/
  master : Nat
  /-- the cartridge's fixed part (R30, R33) -/
  cart : Cartridge
  /-- the parameters (spec/00_scope.md R5) -/
  params : Params
deriving DecidableEq, Repr

/-- The PPU register file after power-on and after reset (R32). -/
def Ppu.reset : Ppu :=
  { ctrl := 0x00, mask := 0x00, vblank := false, oamAddr := 0x00, oamDma := 0x00, vaddr := 0x0000, readBuf := 0x00,
    xScroll := 0, yScroll := 0, w := false, cycle := 0, scanline := 261, stage := .preRendering, parity := false }

/-- The machine right after power-on and reset (R32, spec/70_reset_and_hazards.md R310 to R312) with the empty cartridge,
the default parameters and every memory zero (log 1, log 3). `pc` is the word at 0xFFFC, which in the empty cartridge is
0x0000. `reset_eq_powerOn` in Laws/HostOps.lean proves that this is `powerOn` of those arguments. -/
def State.reset : State :=
  { a := 0x00, x := 0x00, y := 0x00, sp := 0xFD, p := 0x24, pc := 0x0000, cycles := 0, pending := 0,
    halted := none, addrError := none, addrErrorCount := 0, nmiLatch := false, ram := [], ppu := Ppu.reset,
    vram := [], oam := [], pal := [], fb := [], frameReady := false, sram := [], master := 0,
    cart := Cartridge.empty, params := Params.default }

/-- Replace `a`. -/
def State.setA (s : State) (v : Byte) : State := { s with a := v }

/-- Replace `x`. -/
def State.setX (s : State) (v : Byte) : State := { s with x := v }

/-- Replace `y`. -/
def State.setY (s : State) (v : Byte) : State := { s with y := v }

/-- Replace `sp`. -/
def State.setSp (s : State) (v : Byte) : State := { s with sp := v }

/-- Replace `p`. -/
def State.setP (s : State) (v : Byte) : State := { s with p := v }

/-- Replace `pc`. -/
def State.setPc (s : State) (v : Addr) : State := { s with pc := v }

/-- Replace `cycles`. -/
def State.setCycles (s : State) (v : BitVec 64) : State := { s with cycles := v }

/-- Replace `pending`. -/
def State.setPending (s : State) (v : Nat) : State := { s with pending := v }

/-- Replace `halted`. -/
def State.setHalted (s : State) (v : Option Halt) : State := { s with halted := v }

/-- Replace `nmiLatch`. -/
def State.setNmiLatch (s : State) (v : Bool) : State := { s with nmiLatch := v }

/-- Replace `ram`. -/
def State.setRam (s : State) (v : Memory) : State := { s with ram := v }

/-- Replace `ppu`. -/
def State.setPpu (s : State) (v : Ppu) : State := { s with ppu := v }

/-- Replace `vram`. -/
def State.setVram (s : State) (v : Memory) : State := { s with vram := v }

/-- Replace `oam`. -/
def State.setOam (s : State) (v : Memory) : State := { s with oam := v }

/-- Replace `pal`. -/
def State.setPal (s : State) (v : Memory) : State := { s with pal := v }

/-- Replace `fb`. -/
def State.setFb (s : State) (v : Memory) : State := { s with fb := v }

/-- Replace `frameReady`. -/
def State.setFrameReady (s : State) (v : Bool) : State := { s with frameReady := v }

/-- Replace `sram`. -/
def State.setSram (s : State) (v : Memory) : State := { s with sram := v }

/-- Replace `master`. -/
def State.setMaster (s : State) (v : Nat) : State := { s with master := v }

/-- Replace `cart`. -/
def State.setCart (s : State) (v : Cartridge) : State := { s with cart := v }

end Sys2Proof.Machine
end

