-- ==== Sys2Proof/Machine/Flags.lean ====
section
/-! DEFINITION. The status byte's flags and every flag computation (spec/10_state.md R14, spec/00_scope.md R8,
spec/42_arith_logic.md R140, spec/43_inc_dec_shift.md R161 to R164). -/

namespace Sys2Proof.Machine

/-! ## Reading and writing one flag (R14) -/

/-- `P.N`, bit 7. -/
def flagN (p : Byte) : Bool := p.getLsbD 7
/-- `P.V`, bit 6. -/
def flagV (p : Byte) : Bool := p.getLsbD 6
/-- `P.D`, bit 3. -/
def flagD (p : Byte) : Bool := p.getLsbD 3
/-- `P.I`, bit 2. -/
def flagI (p : Byte) : Bool := p.getLsbD 2
/-- `P.Z`, bit 1. -/
def flagZ (p : Byte) : Bool := p.getLsbD 1
/-- `P.C`, bit 0. -/
def flagC (p : Byte) : Bool := p.getLsbD 0

/-- Write the bits of a mask, leaving the others. -/
def withBit (p mask : Byte) (v : Bool) : Byte := if v then p ||| mask else p &&& ~~~mask

/-- `P.N <- v`. -/
def withN (p : Byte) (v : Bool) : Byte := withBit p 0x80 v
/-- `P.V <- v`. -/
def withV (p : Byte) (v : Bool) : Byte := withBit p 0x40 v
/-- `P.D <- v`. -/
def withD (p : Byte) (v : Bool) : Byte := withBit p 0x08 v
/-- `P.I <- v`. -/
def withI (p : Byte) (v : Bool) : Byte := withBit p 0x04 v
/-- `P.Z <- v`. -/
def withZ (p : Byte) (v : Bool) : Byte := withBit p 0x02 v
/-- `P.C <- v`. -/
def withC (p : Byte) (v : Bool) : Byte := withBit p 0x01 v

/-- `SetNZ(v)` (R8) on a status byte. -/
def nz (v p : Byte) : Byte := withN (withZ p (v == 0)) (v.getLsbD 7)

/-- `SetNZ(v)` on the machine. -/
def setNZ (v : Byte) (s : State) : State := s.setP (nz v s.p)

/-! ## The byte that is pushed and the byte that is pulled (R14) -/

/-- What PHP and BRK push: bit 4 (B) and bit 5 set (spec/41_stack.md R131, spec/44_control.md R180). -/
def pushedByInstruction (p : Byte) : Byte := p ||| 0x30

/-- What NMI entry pushes: B clear, bit 5 set (spec/60_exceptions.md R286). -/
def pushedByNmi (p : Byte) : Byte := (p &&& 0xEF) ||| 0x20

/-- What PLP and RTI put in the register: bits 5 and 4 of the pulled byte are ignored (R133, R179). -/
def pulledStatus (v : Byte) : Byte := (v &&& 0xCF) ||| 0x20

/-! ## Arithmetic (R140 to R143) -/

/-- A carry as a number. -/
def bit01 (c : Bool) : Nat := if c then 1 else 0

/-- The 9-bit sum `x[A] + M + P.C`. -/
def sum9 (a m : Byte) (c : Bool) : Nat := a.toNat + m.toNat + bit01 c

/-- ADC's result, `t & 0xFF`. -/
def adcResult (a m : Byte) (c : Bool) : Byte := BitVec.ofNat 8 (sum9 a m c)

/-- ADC's flags: C = (t > 0xFF), V = ((A ^ r) & (M ^ r) & 0x80) != 0, then SetNZ(r). -/
def adcFlags (a m p : Byte) : Byte :=
  let r := adcResult a m (flagC p)
  nz r (withV (withC p (decide (0xFF < sum9 a m (flagC p)))) (((a ^^^ r) &&& (m ^^^ r) &&& 0x80) != 0))

/-- The flags of a comparison `R` with `M`: C = (R >= M), then SetNZ((R - M) & 0xFF) (R147 to R149). -/
def compareFlags (r m p : Byte) : Byte := nz (r - m) (withC p (decide (m.toNat ≤ r.toNat)))

/-- BIT's flags: Z from A & M, N and V copied from M (R150). -/
def bitFlags (a m p : Byte) : Byte := withV (withN (withZ p ((a &&& m) == 0)) (m.getLsbD 7)) (m.getLsbD 6)

/-! ## Shifts and rotates (R161 to R164): the result and the bit shifted out, given the old carry -/

/-- ASL: bit 7 to C, 0 to bit 0. -/
def aslByte (v : Byte) (_c : Bool) : Byte × Bool := (v <<< 1, v.getLsbD 7)
/-- LSR: bit 0 to C, 0 to bit 7. -/
def lsrByte (v : Byte) (_c : Bool) : Byte × Bool := (v >>> 1, v.getLsbD 0)
/-- ROL: bit 7 to C, the old carry to bit 0. -/
def rolByte (v : Byte) (c : Bool) : Byte × Bool := (v <<< 1 ||| BitVec.ofNat 8 (bit01 c), v.getLsbD 7)
/-- ROR: bit 0 to C, the old carry to bit 7. -/
def rorByte (v : Byte) (c : Bool) : Byte × Bool := (v >>> 1 ||| BitVec.ofNat 8 (bit01 c) <<< 7, v.getLsbD 0)

/-- The flags of a shift with result and carry `r`: C, then SetNZ. -/
def shiftFlags (r : Byte × Bool) (p : Byte) : Byte := nz r.1 (withC p r.2)

end Sys2Proof.Machine
end

