-- ==== Sys2Proof/Machine/Memory.lean ====
section
/-! DEFINITION. Memories as sparse lists in one canonical form: indexes strictly rising, and no entry equal to what an
unlisted index reads as. The same operations serve RAM, VRAM, OAM, PAL, FB, SRAM, PRG and CHR. -/

namespace Sys2Proof

/-- What an index that no entry lists reads as: 0x00, the contents spec/00_scope.md R5 and D22 recommend. DESIGN CHOICE
(log 3). -/
def Memory.unlisted : Byte := 0x00

/-- The byte at an index. -/
def Memory.read : Memory → Nat → Byte
  | [], _ => Memory.unlisted
  | (k, b) :: m, i => if k = i then b else Memory.read m i

/-- Drop the entries of an index. -/
def Memory.erase : Memory → Nat → Memory
  | [], _ => []
  | (k, b) :: m, i => if k = i then Memory.erase m i else (k, b) :: Memory.erase m i

/-- Put an entry before the first entry of a higher index. -/
def Memory.insert : Memory → Nat → Byte → Memory
  | [], i, v => [(i, v)]
  | (k, b) :: m, i, v => if i < k then (i, v) :: (k, b) :: m else (k, b) :: Memory.insert m i v

/-- Write a byte at an index: writing what an unlisted index reads as removes the entry. -/
def Memory.write (m : Memory) (i : Nat) (v : Byte) : Memory :=
  if v = Memory.unlisted then Memory.erase m i else Memory.insert (Memory.erase m i) i v

/-- Canonical form with every index at least `low`. -/
def Memory.wfFrom : Nat → Memory → Bool
  | _, [] => true
  | low, (k, b) :: m => decide (low ≤ k) && decide (b ≠ Memory.unlisted) && Memory.wfFrom (k + 1) m

/-- The canonical form. -/
def Memory.wf (m : Memory) : Bool := Memory.wfFrom 0 m

/-- Every listed index is below `n`. -/
def Memory.within (m : Memory) (n : Nat) : Bool := m.all fun c => decide (c.1 < n)

/-- The memory that holds a list of bytes from index `i` on. -/
def Memory.ofBytesFrom : Nat → List Byte → Memory
  | _, [] => []
  | i, b :: bs => if b = Memory.unlisted then Memory.ofBytesFrom (i + 1) bs else (i, b) :: Memory.ofBytesFrom (i + 1) bs

/-- The memory that holds a list of bytes from index 0 on. -/
def Memory.ofBytes (bs : List Byte) : Memory := Memory.ofBytesFrom 0 bs

/-- The bytes at `n` indexes from `i` on. -/
def Memory.toBytes (m : Memory) (i : Nat) : Nat → List Byte
  | 0 => []
  | n + 1 => m.read i :: Memory.toBytes m (i + 1) n

end Sys2Proof
end

