-- ==== Sys2Proof/Machine/PpuOps.lean ====
section
/-! DEFINITION. The PPU bus decode (spec/20_memory.md R60 to R64) and the CPU-visible register window
(spec/50_ppu.md R220 to R236). -/

namespace Sys2Proof.Machine

/-! ## PPU bus -/

/-- `readCHR(a) = CHR[a]` (R61); only indexes below 0x2000 are ever asked for (R60). -/
def readChr (a : PAddr) (s : State) : Byte := s.cart.chr.read a.toNat

/-- `NtIndex(a)` (R62). -/
def ntIndex (m : Mirror) (a : Nat) : Nat :=
  let o := (a - 0x2000) % 0x1000
  match m with
  | .horizontal => o / 0x0800 * 0x0400 + o % 0x0400
  | .vertical => o % 0x0800
  | .none => o % 0x0800

/-- `PalIndex(a)`: 32 entries with 0x10, 0x14, 0x18, 0x1C mirroring 0x00, 0x04, 0x08, 0x0C (R63). -/
def palIndex (a : Nat) : Nat :=
  let i := a % 0x20
  if i = 0x10 ∨ i = 0x14 ∨ i = 0x18 ∨ i = 0x1C then i - 0x10 else i

/-- `PpuRead(a)` (R60); no side effect. -/
def ppuRead (a : PAddr) (s : State) : Byte :=
  if a.toNat < 0x2000 then readChr a s
  else if a.toNat < 0x3F00 then s.vram.read (ntIndex s.cart.mirror a.toNat)
  else s.pal.read (palIndex a.toNat)

/-- `PpuWrite(a, b)` (R64): CHR is immutable. -/
def ppuWrite (a : PAddr) (b : Byte) (s : State) : State :=
  if a.toNat < 0x2000 then s
  else if a.toNat < 0x3F00 then s.setVram (s.vram.write (ntIndex s.cart.mirror a.toNat) b)
  else s.setPal (s.pal.write (palIndex a.toNat) b)

/-! ## The register window -/

/-- `(ppu.vaddr + (ppu.ctrl[2] ? 32 : 1)) & 0x3FFF` (R233, R234). -/
def nextVaddr (u : Ppu) : PAddr := u.vaddr + (if u.ctrl.getLsbD 2 then 32 else 1)

/-- The status byte `ppu.vblank << 7`; bits 6 to 0 read 0 (R226). -/
def statusByte (u : Ppu) : Byte := if u.vblank then 0x80 else 0x00

/-- Status read, index 2: clears the vblank flag and the toggle (R226). -/
def readStatus (s : State) : Byte × State :=
  (statusByte s.ppu, s.setPpu { s.ppu with vblank := false, w := false })

/-- OAM data read, index 4: no side effect (R229). -/
def readOamData (s : State) : Byte × State := (s.oam.read s.ppu.oamAddr.toNat, s)

/-- Data read, index 7: a palette read is immediate and refills the buffer with the nametable byte under it; any other read
is delayed by one (R233). -/
def readData (s : State) : Byte × State :=
  let a := s.ppu.vaddr
  if 0x3F00 ≤ a.toNat then
    (ppuRead a s, s.setPpu { s.ppu with
      readBuf := s.vram.read (ntIndex s.cart.mirror (a &&& 0x2FFF).toNat), vaddr := nextVaddr s.ppu })
  else
    (s.ppu.readBuf, s.setPpu { s.ppu with readBuf := ppuRead a s, vaddr := nextVaddr s.ppu })

/-- `PpuRegRead(r)` (R222); the write-only indexes 0, 1, 3, 5, 6 read 0x00 and change nothing (R235). -/
def ppuRegRead (r : Nat) (s : State) : Byte × State :=
  if r = 2 then readStatus s
  else if r = 4 then readOamData s
  else if r = 7 then readData s
  else (0x00, s)

/-- Control write, index 0 (R224). -/
def writeCtrl (b : Byte) (s : State) : State := s.setPpu { s.ppu with ctrl := b }

/-- Mask write, index 1 (R225). -/
def writeMask (b : Byte) (s : State) : State := s.setPpu { s.ppu with mask := b }

/-- OAM address write, index 3 (R228). -/
def writeOamAddr (b : Byte) (s : State) : State := s.setPpu { s.ppu with oamAddr := b }

/-- OAM data write, index 4: stores, then increments the OAM address (R230). -/
def writeOamData (b : Byte) (s : State) : State :=
  (s.setOam (s.oam.write s.ppu.oamAddr.toNat b)).setPpu { s.ppu with oamAddr := s.ppu.oamAddr + 1 }

/-- Scroll write, index 5: the first write sets X with the X-nametable-select offset 256, the second Y with the
Y-nametable-select offset 240 modulo 480; the toggle flips (R231). -/
def writeScroll (b : Byte) (s : State) : State :=
  if s.ppu.w then
    s.setPpu { s.ppu with yScroll := (b.toNat + (if s.ppu.ctrl.getLsbD 1 then 240 else 0)) % 480, w := false }
  else
    s.setPpu { s.ppu with xScroll := b.toNat + (if s.ppu.ctrl.getLsbD 0 then 256 else 0), w := true }

/-- Address write, index 6: high 6 bits first, then low 8 bits; the toggle flips (R232). -/
def writeAddr (b : Byte) (s : State) : State :=
  if s.ppu.w then
    s.setPpu { s.ppu with vaddr := (s.ppu.vaddr &&& 0x3F00) ||| b.setWidth 14, w := false }
  else
    s.setPpu { s.ppu with vaddr := ((b &&& 0x3F).setWidth 14 <<< 8) ||| (s.ppu.vaddr &&& 0x00FF), w := true }

/-- Data write, index 7: `PpuWrite`, then the address advances (R234). -/
def writeData (b : Byte) (s : State) : State :=
  let t := ppuWrite s.ppu.vaddr b s
  t.setPpu { t.ppu with vaddr := nextVaddr t.ppu }

/-- `PpuRegWrite(r, b)` (R223); a status write, index 2, is discarded (R227). -/
def ppuRegWrite (r : Nat) (b : Byte) (s : State) : State :=
  if r = 0 then writeCtrl b s
  else if r = 1 then writeMask b s
  else if r = 3 then writeOamAddr b s
  else if r = 4 then writeOamData b s
  else if r = 5 then writeScroll b s
  else if r = 6 then writeAddr b s
  else if r = 7 then writeData b s
  else s

end Sys2Proof.Machine
end

