-- ==== Sys2Proof/Machine/Ops.lean ====
section
/-! DEFINITION. The named operations over memory and registers: the CPU bus (spec/20_memory.md R40 to R52), the stack
(spec/41_stack.md R134), entering an exception and returning from one (spec/60_exceptions.md R286,
spec/44_control.md R179, R180), and the registers. -/

namespace Sys2Proof.Machine

/-! ## Cycle cost -/

/-- `cost <- cost + n`: the cost of the running fetch step is accumulated in `pending`, which holds `cost - 1` (log 6). -/
def addCost (n : Nat) (s : State) : State := s.setPending (s.pending + n)

/-! ## Cartridge windows -/

/-- `report AddressError(a, kind)` (R272). -/
def reportAddrError (a : Addr) (k : AccessKind) (s : State) : State :=
  { s with addrError := some { addr := a, kind := k }, addrErrorCount := s.addrErrorCount + 1 }

/-- `readSRAM(a)` (R48); without SRAM an AddressError is reported and 0x00 is read (R50). -/
def readSram (a : Addr) (s : State) : Byte × State :=
  if s.cart.hasSram then (s.sram.read (a.toNat - 0x6000), s) else (0x00, reportAddrError a .read s)

/-- `writeSRAM(a, b)` (R48); without SRAM an AddressError is reported and the write is dropped (R50). -/
def writeSram (a : Addr) (b : Byte) (s : State) : State :=
  if s.cart.hasSram then s.setSram (s.sram.write (a.toNat - 0x6000) b) else reportAddrError a .write s

/-- The PRG image index of an address of the window 0x8000 to 0xFFFF (R49). -/
def prgIndex (c : Cartridge) (a : Addr) : Nat :=
  if c.prgUnits = 1 then a.toNat % 0x4000 else a.toNat - 0x8000

/-- `readPRG(a)` (R49). -/
def readPrg (a : Addr) (c : Cartridge) : Byte := c.prg.read (prgIndex c a)

/-! ## CPU bus -/

/-- `MemRead(a, 1)`: the byte and the state after the read's side effects (R40, R56). -/
def busRead (a : Addr) (s : State) : Byte × State :=
  if a.toNat < 0x2000 then (s.ram.read (a.toNat % 0x0800), s)
  else if a.toNat < 0x4000 then ppuRegRead (a.toNat % 8) s
  else if a.toNat < 0x4014 ∨ a.toNat = 0x4015 then (0x00, s)
  else if a.toNat = 0x4014 then (0x00, s)
  else if a.toNat = 0x4016 then (s.params.ctrl1Const, s)
  else if a.toNat = 0x4017 then (s.params.ctrl2Const, s)
  else if a.toNat < 0x6000 then (0x00, s)
  else if a.toNat < 0x8000 then readSram a s
  else (readPrg a s.cart, s)

/-- The last `n` of the transfer's 256 copies, in increasing order: `OAM[(ppu.oam_addr + i) & 0xFF] <- MemRead((b << 8) | i, 1)`
for i from 256 - n to 255 (R45). -/
def oamDmaCopies (page : Byte) : Nat → State → State
  | 0, s => s
  | n + 1, s =>
    let i := BitVec.ofNat 8 (255 - n)
    let r := busRead (word page i) s
    oamDmaCopies page n (r.2.setOam (r.2.oam.write (r.2.ppu.oamAddr + i).toNat r.1))

/-- A write to 0x4014: the latch, then with `OAM_DMA_ENABLE` the transfer and its cost `513 + (cpu.cycles & 1)` (R45). -/
def writeOamDma (b : Byte) (s : State) : State :=
  let t := s.setPpu { s.ppu with oamDma := b }
  if t.params.oamDmaEnable then addCost (513 + t.cycles.toNat % 2) (oamDmaCopies b 256 t) else t

/-- `MemWrite(a, 1, b)` (R41). -/
def busWrite (a : Addr) (b : Byte) (s : State) : State :=
  if a.toNat < 0x2000 then s.setRam (s.ram.write (a.toNat % 0x0800) b)
  else if a.toNat < 0x4000 then ppuRegWrite (a.toNat % 8) b s
  else if a.toNat < 0x4014 ∨ a.toNat = 0x4015 then s
  else if a.toNat = 0x4014 then writeOamDma b s
  else if a.toNat = 0x4016 ∨ a.toNat = 0x4017 then s
  else if a.toNat < 0x6000 then s
  else if a.toNat < 0x8000 then writeSram a b s
  else s

/-- Two reads, the first address first, the first byte low (spec/00_scope.md R8, R53). -/
def busReadPair (l h : Addr) (s : State) : Addr × State :=
  let r0 := busRead l s
  let r1 := busRead h r0.2
  (word r1.1 r0.1, r1.2)

/-- `MemRead(a, 2)`. -/
def busRead16 (a : Addr) (s : State) : Addr × State := busReadPair a (a + 1) s

/-- `MemReadZp16(z)`: the second address wraps inside page zero. -/
def busReadZp16 (z : Byte) (s : State) : Addr × State := busReadPair (zext z) (zext (z + 1)) s

/-- `MemReadPw16(p)`: the second address wraps inside the page of p. -/
def busReadPw16 (p : Addr) (s : State) : Addr × State := busReadPair p (word (hi p) (lo p + 1)) s

/-! ## Stack (R134) -/

/-- The address `0x0100 + x[S]`. -/
def stackAddr (sp : Byte) : Addr := word 0x01 sp

/-- `Push(v)`: store, then decrement. -/
def push (v : Byte) (s : State) : State :=
  let t := busWrite (stackAddr s.sp) v s
  t.setSp (t.sp - 1)

/-- `Pull()`: increment, then load. -/
def pull (s : State) : Byte × State :=
  let t := s.setSp (s.sp + 1)
  busRead (stackAddr t.sp) t

/-- Push a 16-bit word, high byte first. -/
def pushWord (w : Addr) (s : State) : State := push (lo w) (push (hi w) s)

/-- Pull a 16-bit word, low byte first. -/
def pullWord (s : State) : Addr × State :=
  let l := pull s
  let h := pull l.2
  (word h.1 l.1, h.2)

/-! ## Exceptions -/

/-- The NMI vector (R280). -/
def nmiVector : Addr := 0xFFFA
/-- The reset vector (R280). -/
def resetVector : Addr := 0xFFFC
/-- The IRQ/BRK vector (R280). -/
def brkVector : Addr := 0xFFFE

/-- Entering an exception, the part NMI entry (R286) and BRK (R180) share: push the return address, high byte first, push
the given status byte, set I, load pc from the vector. -/
def enterException (ret : Addr) (status : Byte) (vector : Addr) (s : State) : State :=
  let t := push status (pushWord ret s)
  let u := t.setP (withI t.p true)
  let v := busRead16 vector u
  v.2.setPc v.1

/-- Returning from an exception: pull the status, then pc, with no + 1 (R179). -/
def returnFromException (s : State) : State :=
  let v := pull s
  let t := v.2.setP (pulledStatus v.1)
  let r := pullWord t
  r.2.setPc r.1

/-- `NMI_ENTRY_CYCLES` (R5). -/
def nmiEntryCycles : Nat := 7

/-- The CPU step that services the NMI (R286). -/
def nmiEntry (s : State) : State :=
  (enterException s.pc (pushedByNmi s.p) nmiVector (s.setNmiLatch false)).setPending (nmiEntryCycles - 1)

/-! ## Registers -/

/-- The four byte registers instructions name as operands. -/
inductive Reg where
  | a
  | x
  | y
  | s
deriving DecidableEq, Repr

/-- Read a register. -/
def getReg (r : Reg) (s : State) : Byte :=
  match r with
  | .a => s.a
  | .x => s.x
  | .y => s.y
  | .s => s.sp

/-- Write a register. -/
def setReg (r : Reg) (v : Byte) (s : State) : State :=
  match r with
  | .a => s.setA v
  | .x => s.setX v
  | .y => s.setY v
  | .s => s.setSp v

end Sys2Proof.Machine
end

