-- ==== Sys2Proof/Machine/Operands.lean ====
section
/-! DEFINITION. The addressing modes (spec/30_encoding.md R85 to R97), page crossing (R104) and the cost of a fetch step
(R81). -/

namespace Sys2Proof.Machine

/-- A memory operand: an addressing mode that defines `EA`, with its operand. -/
inductive MemOp where
  | zp (b : Byte)
  | zpx (b : Byte)
  | zpy (b : Byte)
  | abs (a : Addr)
  | absx (a : Addr)
  | absy (a : Addr)
  | indx (b : Byte)
  | indy (b : Byte)
deriving DecidableEq, Repr

/-- A source operand M: the immediate byte, or memory. -/
inductive Src where
  | imm (b : Byte)
  | mem (m : MemOp)
deriving DecidableEq, Repr

/-- The base cost and page-cross flag of a table row (R99). -/
structure Timing where
  base : Nat
  pageCross : Bool
deriving DecidableEq, Repr

/-- What resolving a mode gives: `EA`, the page-crossing report, and the state after the pointer reads. -/
structure Resolved where
  ea : Addr
  crossed : Bool
  st : State
deriving DecidableEq, Repr

/-- Two addresses lie in different pages (R104, R181). -/
def otherPage (a b : Addr) : Bool := hi a != hi b

/-- The indexed address of a 16-bit base (R92, R93, R96, R104). -/
def indexed (base : Addr) (i : Byte) (s : State) : Resolved :=
  { ea := base + zext i, crossed := otherPage base (base + zext i), st := s }

/-- Resolve an addressing mode (R88 to R93, R95, R96). -/
def resolve (m : MemOp) (s : State) : Resolved :=
  match m with
  | .zp b => { ea := zext b, crossed := false, st := s }
  | .zpx b => { ea := zext (b + s.x), crossed := false, st := s }
  | .zpy b => { ea := zext (b + s.y), crossed := false, st := s }
  | .abs a => { ea := a, crossed := false, st := s }
  | .absx a => indexed a s.x s
  | .absy a => indexed a s.y s
  | .indx b => let r := busReadZp16 (b + s.x) s; { ea := r.1, crossed := false, st := r.2 }
  | .indy b => let r := busReadZp16 b s; indexed r.1 r.2.y r.2

/-- `cost <- base`: `pending` holds `cost - 1` from here on (R80, R81, log 6). -/
def charge (base : Nat) (s : State) : State := s.setPending (base - 1)

/-- Charge the base cost, resolve the mode and charge the page-crossing penalty where the row has the flag (R80, R81):
`EA` and the state. -/
def locate (m : MemOp) (t : Timing) (s : State) : Addr × State :=
  let r := resolve m (charge t.base s)
  (r.ea, if t.pageCross && r.crossed then addCost 1 r.st else r.st)

/-- "fetch M": the immediate byte or `MemRead(EA, 1)`. -/
def fetchM (o : Src) (t : Timing) (s : State) : Byte × State :=
  match o with
  | .imm b => (b, charge t.base s)
  | .mem m => let l := locate m t s; busRead l.1 l.2

/-- The target of a relative branch from the following instruction's address (R97). -/
def branchTarget (pc : Addr) (off : Byte) : Addr := pc + sext off

end Sys2Proof.Machine
end

