-- ==== Sys2Proof/Machine/ArithLogic.lean ====
section
/-! DEFINITION. Arithmetic, logic, compare and bit test (spec/42_arith_logic.md). The D flag is never consulted (R141). -/

namespace Sys2Proof.Machine

/-- `x[A] + M + P.C` into A, with N, V, Z, C (R142). -/
def addToAcc (m : Byte) (s : State) : State :=
  (s.setP (adcFlags s.a m s.p)).setA (adcResult s.a m (flagC s.p))

/-- ADC (R142). -/
def addWithCarry (o : Src) (t : Timing) (s : State) : State :=
  let m := fetchM o t s
  addToAcc m.1 m.2

/-- SBC: addition of the one's complement (R140, R143). -/
def subWithBorrow (o : Src) (t : Timing) (s : State) : State :=
  let m := fetchM o t s
  addToAcc (m.1 ^^^ 0xFF) m.2

/-- `fetch M; x[A] <- f(x[A], M); SetNZ(x[A])` (R144 to R146). -/
def logic (f : Byte → Byte → Byte) (o : Src) (t : Timing) (s : State) : State :=
  let m := fetchM o t s
  setNZ (f m.2.a m.1) (m.2.setA (f m.2.a m.1))

/-- Compare a register with M: flags only (R147 to R149). -/
def compareReg (r : Reg) (o : Src) (t : Timing) (s : State) : State :=
  let m := fetchM o t s
  m.2.setP (compareFlags (getReg r m.2) m.1 m.2.p)

/-- BIT: flags only (R150). -/
def bitTest (o : Src) (t : Timing) (s : State) : State :=
  let m := fetchM o t s
  m.2.setP (bitFlags m.2.a m.1 m.2.p)

/-- ADC `indx`, 0x61 (R142, R95). -/
def execAdcIndx (b : Byte) (s : State) : Host.Outcome State Fault Refusal :=
  .next (addWithCarry (.mem (.indx b)) ⟨6, false⟩ s)

/-- ADC `zp`, 0x65 (R142, R88). -/
def execAdcZp (b : Byte) (s : State) : Host.Outcome State Fault Refusal :=
  .next (addWithCarry (.mem (.zp b)) ⟨3, false⟩ s)

/-- ADC `imm`, 0x69 (R142, R87). -/
def execAdcImm (b : Byte) (s : State) : Host.Outcome State Fault Refusal :=
  .next (addWithCarry (.imm b) ⟨2, false⟩ s)

/-- ADC `abs`, 0x6D (R142, R91). -/
def execAdcAbs (a : Addr) (s : State) : Host.Outcome State Fault Refusal :=
  .next (addWithCarry (.mem (.abs a)) ⟨4, false⟩ s)

/-- ADC `indy`, 0x71 (R142, R96). -/
def execAdcIndy (b : Byte) (s : State) : Host.Outcome State Fault Refusal :=
  .next (addWithCarry (.mem (.indy b)) ⟨5, true⟩ s)

/-- ADC `zpx`, 0x75 (R142, R89). -/
def execAdcZpx (b : Byte) (s : State) : Host.Outcome State Fault Refusal :=
  .next (addWithCarry (.mem (.zpx b)) ⟨4, false⟩ s)

/-- ADC `absy`, 0x79 (R142, R93). -/
def execAdcAbsy (a : Addr) (s : State) : Host.Outcome State Fault Refusal :=
  .next (addWithCarry (.mem (.absy a)) ⟨4, true⟩ s)

/-- ADC `absx`, 0x7D (R142, R92). -/
def execAdcAbsx (a : Addr) (s : State) : Host.Outcome State Fault Refusal :=
  .next (addWithCarry (.mem (.absx a)) ⟨4, true⟩ s)

/-- SBC `indx`, 0xE1 (R143, R95). -/
def execSbcIndx (b : Byte) (s : State) : Host.Outcome State Fault Refusal :=
  .next (subWithBorrow (.mem (.indx b)) ⟨6, false⟩ s)

/-- SBC `zp`, 0xE5 (R143, R88). -/
def execSbcZp (b : Byte) (s : State) : Host.Outcome State Fault Refusal :=
  .next (subWithBorrow (.mem (.zp b)) ⟨3, false⟩ s)

/-- SBC `imm`, 0xE9 (R143, R87). -/
def execSbcImm (b : Byte) (s : State) : Host.Outcome State Fault Refusal :=
  .next (subWithBorrow (.imm b) ⟨2, false⟩ s)

/-- SBC `abs`, 0xED (R143, R91). -/
def execSbcAbs (a : Addr) (s : State) : Host.Outcome State Fault Refusal :=
  .next (subWithBorrow (.mem (.abs a)) ⟨4, false⟩ s)

/-- SBC `indy`, 0xF1 (R143, R96). -/
def execSbcIndy (b : Byte) (s : State) : Host.Outcome State Fault Refusal :=
  .next (subWithBorrow (.mem (.indy b)) ⟨5, true⟩ s)

/-- SBC `zpx`, 0xF5 (R143, R89). -/
def execSbcZpx (b : Byte) (s : State) : Host.Outcome State Fault Refusal :=
  .next (subWithBorrow (.mem (.zpx b)) ⟨4, false⟩ s)

/-- SBC `absy`, 0xF9 (R143, R93). -/
def execSbcAbsy (a : Addr) (s : State) : Host.Outcome State Fault Refusal :=
  .next (subWithBorrow (.mem (.absy a)) ⟨4, true⟩ s)

/-- SBC `absx`, 0xFD (R143, R92). -/
def execSbcAbsx (a : Addr) (s : State) : Host.Outcome State Fault Refusal :=
  .next (subWithBorrow (.mem (.absx a)) ⟨4, true⟩ s)

/-- AND `indx`, 0x21 (R144, R95). -/
def execAndIndx (b : Byte) (s : State) : Host.Outcome State Fault Refusal :=
  .next (logic (fun a m => a &&& m) (.mem (.indx b)) ⟨6, false⟩ s)

/-- AND `zp`, 0x25 (R144, R88). -/
def execAndZp (b : Byte) (s : State) : Host.Outcome State Fault Refusal :=
  .next (logic (fun a m => a &&& m) (.mem (.zp b)) ⟨3, false⟩ s)

/-- AND `imm`, 0x29 (R144, R87). -/
def execAndImm (b : Byte) (s : State) : Host.Outcome State Fault Refusal :=
  .next (logic (fun a m => a &&& m) (.imm b) ⟨2, false⟩ s)

/-- AND `abs`, 0x2D (R144, R91). -/
def execAndAbs (a : Addr) (s : State) : Host.Outcome State Fault Refusal :=
  .next (logic (fun a m => a &&& m) (.mem (.abs a)) ⟨4, false⟩ s)

/-- AND `indy`, 0x31 (R144, R96). -/
def execAndIndy (b : Byte) (s : State) : Host.Outcome State Fault Refusal :=
  .next (logic (fun a m => a &&& m) (.mem (.indy b)) ⟨5, true⟩ s)

/-- AND `zpx`, 0x35 (R144, R89). -/
def execAndZpx (b : Byte) (s : State) : Host.Outcome State Fault Refusal :=
  .next (logic (fun a m => a &&& m) (.mem (.zpx b)) ⟨4, false⟩ s)

/-- AND `absy`, 0x39 (R144, R93). -/
def execAndAbsy (a : Addr) (s : State) : Host.Outcome State Fault Refusal :=
  .next (logic (fun a m => a &&& m) (.mem (.absy a)) ⟨4, true⟩ s)

/-- AND `absx`, 0x3D (R144, R92). -/
def execAndAbsx (a : Addr) (s : State) : Host.Outcome State Fault Refusal :=
  .next (logic (fun a m => a &&& m) (.mem (.absx a)) ⟨4, true⟩ s)

/-- ORA `indx`, 0x01 (R145, R95). -/
def execOraIndx (b : Byte) (s : State) : Host.Outcome State Fault Refusal :=
  .next (logic (fun a m => a ||| m) (.mem (.indx b)) ⟨6, false⟩ s)

/-- ORA `zp`, 0x05 (R145, R88). -/
def execOraZp (b : Byte) (s : State) : Host.Outcome State Fault Refusal :=
  .next (logic (fun a m => a ||| m) (.mem (.zp b)) ⟨3, false⟩ s)

/-- ORA `imm`, 0x09 (R145, R87). -/
def execOraImm (b : Byte) (s : State) : Host.Outcome State Fault Refusal :=
  .next (logic (fun a m => a ||| m) (.imm b) ⟨2, false⟩ s)

/-- ORA `abs`, 0x0D (R145, R91). -/
def execOraAbs (a : Addr) (s : State) : Host.Outcome State Fault Refusal :=
  .next (logic (fun a m => a ||| m) (.mem (.abs a)) ⟨4, false⟩ s)

/-- ORA `indy`, 0x11 (R145, R96). -/
def execOraIndy (b : Byte) (s : State) : Host.Outcome State Fault Refusal :=
  .next (logic (fun a m => a ||| m) (.mem (.indy b)) ⟨5, true⟩ s)

/-- ORA `zpx`, 0x15 (R145, R89). -/
def execOraZpx (b : Byte) (s : State) : Host.Outcome State Fault Refusal :=
  .next (logic (fun a m => a ||| m) (.mem (.zpx b)) ⟨4, false⟩ s)

/-- ORA `absy`, 0x19 (R145, R93). -/
def execOraAbsy (a : Addr) (s : State) : Host.Outcome State Fault Refusal :=
  .next (logic (fun a m => a ||| m) (.mem (.absy a)) ⟨4, true⟩ s)

/-- ORA `absx`, 0x1D (R145, R92). -/
def execOraAbsx (a : Addr) (s : State) : Host.Outcome State Fault Refusal :=
  .next (logic (fun a m => a ||| m) (.mem (.absx a)) ⟨4, true⟩ s)

/-- EOR `indx`, 0x41 (R146, R95). -/
def execEorIndx (b : Byte) (s : State) : Host.Outcome State Fault Refusal :=
  .next (logic (fun a m => a ^^^ m) (.mem (.indx b)) ⟨6, false⟩ s)

/-- EOR `zp`, 0x45 (R146, R88). -/
def execEorZp (b : Byte) (s : State) : Host.Outcome State Fault Refusal :=
  .next (logic (fun a m => a ^^^ m) (.mem (.zp b)) ⟨3, false⟩ s)

/-- EOR `imm`, 0x49 (R146, R87). -/
def execEorImm (b : Byte) (s : State) : Host.Outcome State Fault Refusal :=
  .next (logic (fun a m => a ^^^ m) (.imm b) ⟨2, false⟩ s)

/-- EOR `abs`, 0x4D (R146, R91). -/
def execEorAbs (a : Addr) (s : State) : Host.Outcome State Fault Refusal :=
  .next (logic (fun a m => a ^^^ m) (.mem (.abs a)) ⟨4, false⟩ s)

/-- EOR `indy`, 0x51 (R146, R96). -/
def execEorIndy (b : Byte) (s : State) : Host.Outcome State Fault Refusal :=
  .next (logic (fun a m => a ^^^ m) (.mem (.indy b)) ⟨5, true⟩ s)

/-- EOR `zpx`, 0x55 (R146, R89). -/
def execEorZpx (b : Byte) (s : State) : Host.Outcome State Fault Refusal :=
  .next (logic (fun a m => a ^^^ m) (.mem (.zpx b)) ⟨4, false⟩ s)

/-- EOR `absy`, 0x59 (R146, R93). -/
def execEorAbsy (a : Addr) (s : State) : Host.Outcome State Fault Refusal :=
  .next (logic (fun a m => a ^^^ m) (.mem (.absy a)) ⟨4, true⟩ s)

/-- EOR `absx`, 0x5D (R146, R92). -/
def execEorAbsx (a : Addr) (s : State) : Host.Outcome State Fault Refusal :=
  .next (logic (fun a m => a ^^^ m) (.mem (.absx a)) ⟨4, true⟩ s)

/-- CMP `indx`, 0xC1 (R147, R95). -/
def execCmpIndx (b : Byte) (s : State) : Host.Outcome State Fault Refusal :=
  .next (compareReg .a (.mem (.indx b)) ⟨6, false⟩ s)

/-- CMP `zp`, 0xC5 (R147, R88). -/
def execCmpZp (b : Byte) (s : State) : Host.Outcome State Fault Refusal :=
  .next (compareReg .a (.mem (.zp b)) ⟨3, false⟩ s)

/-- CMP `imm`, 0xC9 (R147, R87). -/
def execCmpImm (b : Byte) (s : State) : Host.Outcome State Fault Refusal :=
  .next (compareReg .a (.imm b) ⟨2, false⟩ s)

/-- CMP `abs`, 0xCD (R147, R91). -/
def execCmpAbs (a : Addr) (s : State) : Host.Outcome State Fault Refusal :=
  .next (compareReg .a (.mem (.abs a)) ⟨4, false⟩ s)

/-- CMP `indy`, 0xD1 (R147, R96). -/
def execCmpIndy (b : Byte) (s : State) : Host.Outcome State Fault Refusal :=
  .next (compareReg .a (.mem (.indy b)) ⟨5, true⟩ s)

/-- CMP `zpx`, 0xD5 (R147, R89). -/
def execCmpZpx (b : Byte) (s : State) : Host.Outcome State Fault Refusal :=
  .next (compareReg .a (.mem (.zpx b)) ⟨4, false⟩ s)

/-- CMP `absy`, 0xD9 (R147, R93). -/
def execCmpAbsy (a : Addr) (s : State) : Host.Outcome State Fault Refusal :=
  .next (compareReg .a (.mem (.absy a)) ⟨4, true⟩ s)

/-- CMP `absx`, 0xDD (R147, R92). -/
def execCmpAbsx (a : Addr) (s : State) : Host.Outcome State Fault Refusal :=
  .next (compareReg .a (.mem (.absx a)) ⟨4, true⟩ s)

/-- CPX `imm`, 0xE0 (R148, R87). -/
def execCpxImm (b : Byte) (s : State) : Host.Outcome State Fault Refusal :=
  .next (compareReg .x (.imm b) ⟨2, false⟩ s)

/-- CPX `zp`, 0xE4 (R148, R88). -/
def execCpxZp (b : Byte) (s : State) : Host.Outcome State Fault Refusal :=
  .next (compareReg .x (.mem (.zp b)) ⟨3, false⟩ s)

/-- CPX `abs`, 0xEC (R148, R91). -/
def execCpxAbs (a : Addr) (s : State) : Host.Outcome State Fault Refusal :=
  .next (compareReg .x (.mem (.abs a)) ⟨4, false⟩ s)

/-- CPY `imm`, 0xC0 (R149, R87). -/
def execCpyImm (b : Byte) (s : State) : Host.Outcome State Fault Refusal :=
  .next (compareReg .y (.imm b) ⟨2, false⟩ s)

/-- CPY `zp`, 0xC4 (R149, R88). -/
def execCpyZp (b : Byte) (s : State) : Host.Outcome State Fault Refusal :=
  .next (compareReg .y (.mem (.zp b)) ⟨3, false⟩ s)

/-- CPY `abs`, 0xCC (R149, R91). -/
def execCpyAbs (a : Addr) (s : State) : Host.Outcome State Fault Refusal :=
  .next (compareReg .y (.mem (.abs a)) ⟨4, false⟩ s)

/-- BIT `zp`, 0x24 (R150, R88). -/
def execBitZp (b : Byte) (s : State) : Host.Outcome State Fault Refusal :=
  .next (bitTest (.mem (.zp b)) ⟨3, false⟩ s)

/-- BIT `abs`, 0x2C (R150, R91). -/
def execBitAbs (a : Addr) (s : State) : Host.Outcome State Fault Refusal :=
  .next (bitTest (.mem (.abs a)) ⟨4, false⟩ s)

end Sys2Proof.Machine
end

