-- ==== Sys2Proof/Machine/Control.lean ====
section
/-! DEFINITION. Control transfer (spec/44_control.md). On entry to a meaning `pc` already names the following instruction (R190, log 7). -/

namespace Sys2Proof.Machine

/-- `pc <- target` (R175). -/
def jump (target : Addr) (base : Nat) (s : State) : State := (charge base s).setPc target

/-- `pc <- MemReadPw16(p)` (R176, R94). -/
def jumpIndirect (p : Addr) (base : Nat) (s : State) : State :=
  let r := busReadPw16 p (charge base s)
  r.2.setPc r.1

/-- Push the address of the instruction's last byte, `pc - 1`, high byte first, then jump (R177). -/
def callSubroutine (target : Addr) (base : Nat) (s : State) : State :=
  (pushWord (s.pc - 1) (charge base s)).setPc target

/-- Pull the address, low byte first, and add 1 (R178). -/
def returnFromSubroutine (base : Nat) (s : State) : State :=
  let r := pullWord (charge base s)
  r.2.setPc (r.1 + 1)

/-- The common part of the conditional branches: +1 taken, +1 more when the target lies in another page than the following
instruction (R181). -/
def branch (taken : Bool) (off : Byte) (base : Nat) (s : State) : State :=
  let t := charge base s
  let target := branchTarget s.pc off
  if taken then (addCost (if otherPage target s.pc then 2 else 1) t).setPc target else t

/-- JMP `abs`, 0x4C (R175, R91). -/
def execJmpAbs (a : Addr) (s : State) : Host.Outcome State Fault Refusal :=
  .next (jump a 3 s)

/-- JMP `ind`, 0x6C (R176, R94). -/
def execJmpInd (a : Addr) (s : State) : Host.Outcome State Fault Refusal :=
  .next (jumpIndirect a 5 s)

/-- JSR `abs`, 0x20 (R177, R91). -/
def execJsrAbs (a : Addr) (s : State) : Host.Outcome State Fault Refusal :=
  .next (callSubroutine a 6 s)

/-- RTS `imp`, 0x60 (R178, R85). -/
def execRts (s : State) : Host.Outcome State Fault Refusal :=
  .next (returnFromSubroutine 6 s)

/-- RTI `imp`, 0x40 (R179, R85). -/
def execRti (s : State) : Host.Outcome State Fault Refusal :=
  .next (returnFromException (charge 6 s))

/-- BRK `imp`, 0x00 (R180, R85). -/
def execBrk (s : State) : Host.Outcome State Fault Refusal :=
  .next (enterException (s.pc + 1) (pushedByInstruction s.p) brkVector (charge 7 s))

/-- BPL `rel`, 0x10 (R182, R97). -/
def execBpl (off : Byte) (s : State) : Host.Outcome State Fault Refusal :=
  .next (branch (!flagN s.p) off 2 s)

/-- BMI `rel`, 0x30 (R183, R97). -/
def execBmi (off : Byte) (s : State) : Host.Outcome State Fault Refusal :=
  .next (branch (flagN s.p) off 2 s)

/-- BVC `rel`, 0x50 (R184, R97). -/
def execBvc (off : Byte) (s : State) : Host.Outcome State Fault Refusal :=
  .next (branch (!flagV s.p) off 2 s)

/-- BVS `rel`, 0x70 (R185, R97). -/
def execBvs (off : Byte) (s : State) : Host.Outcome State Fault Refusal :=
  .next (branch (flagV s.p) off 2 s)

/-- BCC `rel`, 0x90 (R186, R97). -/
def execBcc (off : Byte) (s : State) : Host.Outcome State Fault Refusal :=
  .next (branch (!flagC s.p) off 2 s)

/-- BCS `rel`, 0xB0 (R187, R97). -/
def execBcs (off : Byte) (s : State) : Host.Outcome State Fault Refusal :=
  .next (branch (flagC s.p) off 2 s)

/-- BNE `rel`, 0xD0 (R188, R97). -/
def execBne (off : Byte) (s : State) : Host.Outcome State Fault Refusal :=
  .next (branch (!flagZ s.p) off 2 s)

/-- BEQ `rel`, 0xF0 (R189, R97). -/
def execBeq (off : Byte) (s : State) : Host.Outcome State Fault Refusal :=
  .next (branch (flagZ s.p) off 2 s)

end Sys2Proof.Machine
end

