-- ==== Sys2Proof/Machine/FlagOps.lean ====
section
/-! DEFINITION. Flag instructions and NOP (spec/45_flags_nop.md). -/

namespace Sys2Proof.Machine

/-- CLC `imp`, 0x18 (R200, R85). -/
def execClc (s : State) : Host.Outcome State Fault Refusal :=
  .next ((charge 2 s).setP (withC s.p false))

/-- SEC `imp`, 0x38 (R201, R85). -/
def execSec (s : State) : Host.Outcome State Fault Refusal :=
  .next ((charge 2 s).setP (withC s.p true))

/-- CLI `imp`, 0x58 (R202, R85). -/
def execCli (s : State) : Host.Outcome State Fault Refusal :=
  .next ((charge 2 s).setP (withI s.p false))

/-- SEI `imp`, 0x78 (R203, R85). -/
def execSei (s : State) : Host.Outcome State Fault Refusal :=
  .next ((charge 2 s).setP (withI s.p true))

/-- CLV `imp`, 0xB8 (R204, R85). -/
def execClv (s : State) : Host.Outcome State Fault Refusal :=
  .next ((charge 2 s).setP (withV s.p false))

/-- CLD `imp`, 0xD8 (R205, R85). -/
def execCld (s : State) : Host.Outcome State Fault Refusal :=
  .next ((charge 2 s).setP (withD s.p false))

/-- SED `imp`, 0xF8 (R206, R85). -/
def execSed (s : State) : Host.Outcome State Fault Refusal :=
  .next ((charge 2 s).setP (withD s.p true))

/-- NOP `imp`, 0xEA (R207, R85). -/
def execNop (s : State) : Host.Outcome State Fault Refusal :=
  .next (charge 2 s)

end Sys2Proof.Machine
end

