-- ==== Sys2Proof/Machine/IncDecShift.lean ====
section
/-! DEFINITION. Increment, decrement, shift and rotate (spec/43_inc_dec_shift.md). The memory forms make one read and one write of `EA`, in that order (R165). -/

namespace Sys2Proof.Machine

/-- `v <- MemRead(EA, 1); r <- f(v); MemWrite(EA, 1, r); SetNZ(r)` (R155, R158). -/
def modifyMem (f : Byte → Byte) (m : MemOp) (t : Timing) (s : State) : State :=
  let l := locate m t s
  let v := busRead l.1 l.2
  setNZ (f v.1) (busWrite l.1 (f v.1) v.2)

/-- `x[r] <- f(x[r]); SetNZ(x[r])` (R156, R157, R159, R160). -/
def modifyReg (f : Byte → Byte) (r : Reg) (base : Nat) (s : State) : State :=
  setNZ (f (getReg r s)) (setReg r (f (getReg r s)) (charge base s))

/-- A shift or rotate of memory: read, C, write, SetNZ (R161 to R164). -/
def shiftMem (f : Byte → Bool → Byte × Bool) (m : MemOp) (t : Timing) (s : State) : State :=
  let l := locate m t s
  let v := busRead l.1 l.2
  let r := f v.1 (flagC v.2.p)
  let u := busWrite l.1 r.1 v.2
  u.setP (shiftFlags r u.p)

/-- A shift or rotate of the accumulator (R161 to R164, R86). -/
def shiftAcc (f : Byte → Bool → Byte × Bool) (base : Nat) (s : State) : State :=
  let r := f s.a (flagC s.p)
  ((charge base s).setA r.1).setP (shiftFlags r s.p)

/-- INC `zp`, 0xE6 (R155, R88). -/
def execIncZp (b : Byte) (s : State) : Host.Outcome State Fault Refusal :=
  .next (modifyMem (fun v => v + 1) (.zp b) ⟨5, false⟩ s)

/-- INC `abs`, 0xEE (R155, R91). -/
def execIncAbs (a : Addr) (s : State) : Host.Outcome State Fault Refusal :=
  .next (modifyMem (fun v => v + 1) (.abs a) ⟨6, false⟩ s)

/-- INC `zpx`, 0xF6 (R155, R89). -/
def execIncZpx (b : Byte) (s : State) : Host.Outcome State Fault Refusal :=
  .next (modifyMem (fun v => v + 1) (.zpx b) ⟨6, false⟩ s)

/-- INC `absx`, 0xFE (R155, R92). -/
def execIncAbsx (a : Addr) (s : State) : Host.Outcome State Fault Refusal :=
  .next (modifyMem (fun v => v + 1) (.absx a) ⟨7, false⟩ s)

/-- INX `imp`, 0xE8 (R156, R85). -/
def execInx (s : State) : Host.Outcome State Fault Refusal :=
  .next (modifyReg (fun v => v + 1) .x 2 s)

/-- INY `imp`, 0xC8 (R157, R85). -/
def execIny (s : State) : Host.Outcome State Fault Refusal :=
  .next (modifyReg (fun v => v + 1) .y 2 s)

/-- DEC `zp`, 0xC6 (R158, R88). -/
def execDecZp (b : Byte) (s : State) : Host.Outcome State Fault Refusal :=
  .next (modifyMem (fun v => v - 1) (.zp b) ⟨5, false⟩ s)

/-- DEC `abs`, 0xCE (R158, R91). -/
def execDecAbs (a : Addr) (s : State) : Host.Outcome State Fault Refusal :=
  .next (modifyMem (fun v => v - 1) (.abs a) ⟨6, false⟩ s)

/-- DEC `zpx`, 0xD6 (R158, R89). -/
def execDecZpx (b : Byte) (s : State) : Host.Outcome State Fault Refusal :=
  .next (modifyMem (fun v => v - 1) (.zpx b) ⟨6, false⟩ s)

/-- DEC `absx`, 0xDE (R158, R92). -/
def execDecAbsx (a : Addr) (s : State) : Host.Outcome State Fault Refusal :=
  .next (modifyMem (fun v => v - 1) (.absx a) ⟨7, false⟩ s)

/-- DEX `imp`, 0xCA (R159, R85). -/
def execDex (s : State) : Host.Outcome State Fault Refusal :=
  .next (modifyReg (fun v => v - 1) .x 2 s)

/-- DEY `imp`, 0x88 (R160, R85). -/
def execDey (s : State) : Host.Outcome State Fault Refusal :=
  .next (modifyReg (fun v => v - 1) .y 2 s)

/-- ASL `zp`, 0x06 (R161, R88). -/
def execAslZp (b : Byte) (s : State) : Host.Outcome State Fault Refusal :=
  .next (shiftMem aslByte (.zp b) ⟨5, false⟩ s)

/-- ASL `acc`, 0x0A (R161, R86). -/
def execAslAcc (s : State) : Host.Outcome State Fault Refusal :=
  .next (shiftAcc aslByte 2 s)

/-- ASL `abs`, 0x0E (R161, R91). -/
def execAslAbs (a : Addr) (s : State) : Host.Outcome State Fault Refusal :=
  .next (shiftMem aslByte (.abs a) ⟨6, false⟩ s)

/-- ASL `zpx`, 0x16 (R161, R89). -/
def execAslZpx (b : Byte) (s : State) : Host.Outcome State Fault Refusal :=
  .next (shiftMem aslByte (.zpx b) ⟨6, false⟩ s)

/-- ASL `absx`, 0x1E (R161, R92). -/
def execAslAbsx (a : Addr) (s : State) : Host.Outcome State Fault Refusal :=
  .next (shiftMem aslByte (.absx a) ⟨7, false⟩ s)

/-- LSR `zp`, 0x46 (R162, R88). -/
def execLsrZp (b : Byte) (s : State) : Host.Outcome State Fault Refusal :=
  .next (shiftMem lsrByte (.zp b) ⟨5, false⟩ s)

/-- LSR `acc`, 0x4A (R162, R86). -/
def execLsrAcc (s : State) : Host.Outcome State Fault Refusal :=
  .next (shiftAcc lsrByte 2 s)

/-- LSR `abs`, 0x4E (R162, R91). -/
def execLsrAbs (a : Addr) (s : State) : Host.Outcome State Fault Refusal :=
  .next (shiftMem lsrByte (.abs a) ⟨6, false⟩ s)

/-- LSR `zpx`, 0x56 (R162, R89). -/
def execLsrZpx (b : Byte) (s : State) : Host.Outcome State Fault Refusal :=
  .next (shiftMem lsrByte (.zpx b) ⟨6, false⟩ s)

/-- LSR `absx`, 0x5E (R162, R92). -/
def execLsrAbsx (a : Addr) (s : State) : Host.Outcome State Fault Refusal :=
  .next (shiftMem lsrByte (.absx a) ⟨7, false⟩ s)

/-- ROL `zp`, 0x26 (R163, R88). -/
def execRolZp (b : Byte) (s : State) : Host.Outcome State Fault Refusal :=
  .next (shiftMem rolByte (.zp b) ⟨5, false⟩ s)

/-- ROL `acc`, 0x2A (R163, R86). -/
def execRolAcc (s : State) : Host.Outcome State Fault Refusal :=
  .next (shiftAcc rolByte 2 s)

/-- ROL `abs`, 0x2E (R163, R91). -/
def execRolAbs (a : Addr) (s : State) : Host.Outcome State Fault Refusal :=
  .next (shiftMem rolByte (.abs a) ⟨6, false⟩ s)

/-- ROL `zpx`, 0x36 (R163, R89). -/
def execRolZpx (b : Byte) (s : State) : Host.Outcome State Fault Refusal :=
  .next (shiftMem rolByte (.zpx b) ⟨6, false⟩ s)

/-- ROL `absx`, 0x3E (R163, R92). -/
def execRolAbsx (a : Addr) (s : State) : Host.Outcome State Fault Refusal :=
  .next (shiftMem rolByte (.absx a) ⟨7, false⟩ s)

/-- ROR `zp`, 0x66 (R164, R88). -/
def execRorZp (b : Byte) (s : State) : Host.Outcome State Fault Refusal :=
  .next (shiftMem rorByte (.zp b) ⟨5, false⟩ s)

/-- ROR `acc`, 0x6A (R164, R86). -/
def execRorAcc (s : State) : Host.Outcome State Fault Refusal :=
  .next (shiftAcc rorByte 2 s)

/-- ROR `abs`, 0x6E (R164, R91). -/
def execRorAbs (a : Addr) (s : State) : Host.Outcome State Fault Refusal :=
  .next (shiftMem rorByte (.abs a) ⟨6, false⟩ s)

/-- ROR `zpx`, 0x76 (R164, R89). -/
def execRorZpx (b : Byte) (s : State) : Host.Outcome State Fault Refusal :=
  .next (shiftMem rorByte (.zpx b) ⟨6, false⟩ s)

/-- ROR `absx`, 0x7E (R164, R92). -/
def execRorAbsx (a : Addr) (s : State) : Host.Outcome State Fault Refusal :=
  .next (shiftMem rorByte (.absx a) ⟨7, false⟩ s)

end Sys2Proof.Machine
end

