-- ==== Sys2Proof/Machine/LoadStore.lean ====
section
/-! DEFINITION. Loads, stores and register transfers (spec/40_load_store_transfer.md). -/

namespace Sys2Proof.Machine

/-- `M <- operand; x[r] <- M; SetNZ(M)` (R110 to R112). -/
def loadReg (r : Reg) (o : Src) (t : Timing) (s : State) : State :=
  let m := fetchM o t s
  setNZ m.1 (setReg r m.1 m.2)

/-- `MemWrite(EA, 1, x[r])` (R113 to R115); no read of `EA` is made. -/
def storeReg (r : Reg) (m : MemOp) (t : Timing) (s : State) : State :=
  let l := locate m t s
  busWrite l.1 (getReg r l.2) l.2

/-- `x[dst] <- x[src]; SetNZ(x[dst])` (R116 to R120). -/
def transfer (src dst : Reg) (base : Nat) (s : State) : State :=
  setNZ (getReg src s) (setReg dst (getReg src s) (charge base s))

/-- `x[S] <- x[X]`, "the only transfer that leaves N and Z alone" (R121). -/
def transferSp (base : Nat) (s : State) : State := (charge base s).setSp s.x

/-- LDA `indx`, 0xA1 (R110, R95). -/
def execLdaIndx (b : Byte) (s : State) : Host.Outcome State Fault Refusal :=
  .next (loadReg .a (.mem (.indx b)) ⟨6, false⟩ s)

/-- LDA `zp`, 0xA5 (R110, R88). -/
def execLdaZp (b : Byte) (s : State) : Host.Outcome State Fault Refusal :=
  .next (loadReg .a (.mem (.zp b)) ⟨3, false⟩ s)

/-- LDA `imm`, 0xA9 (R110, R87). -/
def execLdaImm (b : Byte) (s : State) : Host.Outcome State Fault Refusal :=
  .next (loadReg .a (.imm b) ⟨2, false⟩ s)

/-- LDA `abs`, 0xAD (R110, R91). -/
def execLdaAbs (a : Addr) (s : State) : Host.Outcome State Fault Refusal :=
  .next (loadReg .a (.mem (.abs a)) ⟨4, false⟩ s)

/-- LDA `indy`, 0xB1 (R110, R96). -/
def execLdaIndy (b : Byte) (s : State) : Host.Outcome State Fault Refusal :=
  .next (loadReg .a (.mem (.indy b)) ⟨5, true⟩ s)

/-- LDA `zpx`, 0xB5 (R110, R89). -/
def execLdaZpx (b : Byte) (s : State) : Host.Outcome State Fault Refusal :=
  .next (loadReg .a (.mem (.zpx b)) ⟨4, false⟩ s)

/-- LDA `absy`, 0xB9 (R110, R93). -/
def execLdaAbsy (a : Addr) (s : State) : Host.Outcome State Fault Refusal :=
  .next (loadReg .a (.mem (.absy a)) ⟨4, true⟩ s)

/-- LDA `absx`, 0xBD (R110, R92). -/
def execLdaAbsx (a : Addr) (s : State) : Host.Outcome State Fault Refusal :=
  .next (loadReg .a (.mem (.absx a)) ⟨4, true⟩ s)

/-- LDX `imm`, 0xA2 (R111, R87). -/
def execLdxImm (b : Byte) (s : State) : Host.Outcome State Fault Refusal :=
  .next (loadReg .x (.imm b) ⟨2, false⟩ s)

/-- LDX `zp`, 0xA6 (R111, R88). -/
def execLdxZp (b : Byte) (s : State) : Host.Outcome State Fault Refusal :=
  .next (loadReg .x (.mem (.zp b)) ⟨3, false⟩ s)

/-- LDX `abs`, 0xAE (R111, R91). -/
def execLdxAbs (a : Addr) (s : State) : Host.Outcome State Fault Refusal :=
  .next (loadReg .x (.mem (.abs a)) ⟨4, false⟩ s)

/-- LDX `zpy`, 0xB6 (R111, R90). -/
def execLdxZpy (b : Byte) (s : State) : Host.Outcome State Fault Refusal :=
  .next (loadReg .x (.mem (.zpy b)) ⟨4, false⟩ s)

/-- LDX `absy`, 0xBE (R111, R93). -/
def execLdxAbsy (a : Addr) (s : State) : Host.Outcome State Fault Refusal :=
  .next (loadReg .x (.mem (.absy a)) ⟨4, true⟩ s)

/-- LDY `imm`, 0xA0 (R112, R87). -/
def execLdyImm (b : Byte) (s : State) : Host.Outcome State Fault Refusal :=
  .next (loadReg .y (.imm b) ⟨2, false⟩ s)

/-- LDY `zp`, 0xA4 (R112, R88). -/
def execLdyZp (b : Byte) (s : State) : Host.Outcome State Fault Refusal :=
  .next (loadReg .y (.mem (.zp b)) ⟨3, false⟩ s)

/-- LDY `abs`, 0xAC (R112, R91). -/
def execLdyAbs (a : Addr) (s : State) : Host.Outcome State Fault Refusal :=
  .next (loadReg .y (.mem (.abs a)) ⟨4, false⟩ s)

/-- LDY `zpx`, 0xB4 (R112, R89). -/
def execLdyZpx (b : Byte) (s : State) : Host.Outcome State Fault Refusal :=
  .next (loadReg .y (.mem (.zpx b)) ⟨4, false⟩ s)

/-- LDY `absx`, 0xBC (R112, R92). -/
def execLdyAbsx (a : Addr) (s : State) : Host.Outcome State Fault Refusal :=
  .next (loadReg .y (.mem (.absx a)) ⟨4, true⟩ s)

/-- STA `indx`, 0x81 (R113, R95). -/
def execStaIndx (b : Byte) (s : State) : Host.Outcome State Fault Refusal :=
  .next (storeReg .a (.indx b) ⟨6, false⟩ s)

/-- STA `zp`, 0x85 (R113, R88). -/
def execStaZp (b : Byte) (s : State) : Host.Outcome State Fault Refusal :=
  .next (storeReg .a (.zp b) ⟨3, false⟩ s)

/-- STA `abs`, 0x8D (R113, R91). -/
def execStaAbs (a : Addr) (s : State) : Host.Outcome State Fault Refusal :=
  .next (storeReg .a (.abs a) ⟨4, false⟩ s)

/-- STA `indy`, 0x91 (R113, R96). -/
def execStaIndy (b : Byte) (s : State) : Host.Outcome State Fault Refusal :=
  .next (storeReg .a (.indy b) ⟨6, false⟩ s)

/-- STA `zpx`, 0x95 (R113, R89). -/
def execStaZpx (b : Byte) (s : State) : Host.Outcome State Fault Refusal :=
  .next (storeReg .a (.zpx b) ⟨4, false⟩ s)

/-- STA `absy`, 0x99 (R113, R93). -/
def execStaAbsy (a : Addr) (s : State) : Host.Outcome State Fault Refusal :=
  .next (storeReg .a (.absy a) ⟨5, false⟩ s)

/-- STA `absx`, 0x9D (R113, R92). -/
def execStaAbsx (a : Addr) (s : State) : Host.Outcome State Fault Refusal :=
  .next (storeReg .a (.absx a) ⟨5, false⟩ s)

/-- STX `zp`, 0x86 (R114, R88). -/
def execStxZp (b : Byte) (s : State) : Host.Outcome State Fault Refusal :=
  .next (storeReg .x (.zp b) ⟨3, false⟩ s)

/-- STX `abs`, 0x8E (R114, R91). -/
def execStxAbs (a : Addr) (s : State) : Host.Outcome State Fault Refusal :=
  .next (storeReg .x (.abs a) ⟨4, false⟩ s)

/-- STX `zpy`, 0x96 (R114, R90). -/
def execStxZpy (b : Byte) (s : State) : Host.Outcome State Fault Refusal :=
  .next (storeReg .x (.zpy b) ⟨4, false⟩ s)

/-- STY `zp`, 0x84 (R115, R88). -/
def execStyZp (b : Byte) (s : State) : Host.Outcome State Fault Refusal :=
  .next (storeReg .y (.zp b) ⟨3, false⟩ s)

/-- STY `abs`, 0x8C (R115, R91). -/
def execStyAbs (a : Addr) (s : State) : Host.Outcome State Fault Refusal :=
  .next (storeReg .y (.abs a) ⟨4, false⟩ s)

/-- STY `zpx`, 0x94 (R115, R89). -/
def execStyZpx (b : Byte) (s : State) : Host.Outcome State Fault Refusal :=
  .next (storeReg .y (.zpx b) ⟨4, false⟩ s)

/-- TAX `imp`, 0xAA (R116, R85). -/
def execTax (s : State) : Host.Outcome State Fault Refusal :=
  .next (transfer .a .x 2 s)

/-- TAY `imp`, 0xA8 (R117, R85). -/
def execTay (s : State) : Host.Outcome State Fault Refusal :=
  .next (transfer .a .y 2 s)

/-- TXA `imp`, 0x8A (R118, R85). -/
def execTxa (s : State) : Host.Outcome State Fault Refusal :=
  .next (transfer .x .a 2 s)

/-- TYA `imp`, 0x98 (R119, R85). -/
def execTya (s : State) : Host.Outcome State Fault Refusal :=
  .next (transfer .y .a 2 s)

/-- TSX `imp`, 0xBA (R120, R85). -/
def execTsx (s : State) : Host.Outcome State Fault Refusal :=
  .next (transfer .s .x 2 s)

/-- TXS `imp`, 0x9A (R121, R85). -/
def execTxs (s : State) : Host.Outcome State Fault Refusal :=
  .next (transferSp 2 s)

end Sys2Proof.Machine
end

