-- ==== Sys2Proof/Machine/Stack.lean ====
section
/-! DEFINITION. Stack instructions (spec/41_stack.md). -/

namespace Sys2Proof.Machine

/-- `Push(v)` (R130, R131). -/
def pushByte (v : Byte) (base : Nat) (s : State) : State := push v (charge base s)

/-- `v <- Pull(); x[A] <- v; SetNZ(v)` (R132). -/
def pullAcc (base : Nat) (s : State) : State :=
  let v := pull (charge base s)
  setNZ v.1 (v.2.setA v.1)

/-- `v <- Pull(); x[P] <- (v & 0xCF) | 0x20` (R133). -/
def pullStatus (base : Nat) (s : State) : State :=
  let v := pull (charge base s)
  v.2.setP (pulledStatus v.1)

/-- PHA `imp`, 0x48 (R130, R85). -/
def execPha (s : State) : Host.Outcome State Fault Refusal :=
  .next (pushByte s.a 3 s)

/-- PHP `imp`, 0x08 (R131, R85). -/
def execPhp (s : State) : Host.Outcome State Fault Refusal :=
  .next (pushByte (pushedByInstruction s.p) 3 s)

/-- PLA `imp`, 0x68 (R132, R85). -/
def execPla (s : State) : Host.Outcome State Fault Refusal :=
  .next (pullAcc 4 s)

/-- PLP `imp`, 0x28 (R133, R85). -/
def execPlp (s : State) : Host.Outcome State Fault Refusal :=
  .next (pullStatus 4 s)

end Sys2Proof.Machine
end

