-- ==== Sys2Proof/Machine/Dispatch.lean ====
section
/-! DEFINITION. One arm for each of the 151 instructions, each one direct call of its meaning. -/

namespace Sys2Proof.Machine

def exec (i : Instr) (s : State) : Host.Outcome State Fault Refusal :=
  match i with
  -- LDA (R110)
  | .ldaIndx b => Sys2Proof.Machine.execLdaIndx b s
  | .ldaZp b => Sys2Proof.Machine.execLdaZp b s
  | .ldaImm b => Sys2Proof.Machine.execLdaImm b s
  | .ldaAbs a => Sys2Proof.Machine.execLdaAbs a s
  | .ldaIndy b => Sys2Proof.Machine.execLdaIndy b s
  | .ldaZpx b => Sys2Proof.Machine.execLdaZpx b s
  | .ldaAbsy a => Sys2Proof.Machine.execLdaAbsy a s
  | .ldaAbsx a => Sys2Proof.Machine.execLdaAbsx a s
  -- LDX (R111)
  | .ldxImm b => Sys2Proof.Machine.execLdxImm b s
  | .ldxZp b => Sys2Proof.Machine.execLdxZp b s
  | .ldxAbs a => Sys2Proof.Machine.execLdxAbs a s
  | .ldxZpy b => Sys2Proof.Machine.execLdxZpy b s
  | .ldxAbsy a => Sys2Proof.Machine.execLdxAbsy a s
  -- LDY (R112)
  | .ldyImm b => Sys2Proof.Machine.execLdyImm b s
  | .ldyZp b => Sys2Proof.Machine.execLdyZp b s
  | .ldyAbs a => Sys2Proof.Machine.execLdyAbs a s
  | .ldyZpx b => Sys2Proof.Machine.execLdyZpx b s
  | .ldyAbsx a => Sys2Proof.Machine.execLdyAbsx a s
  -- STA (R113)
  | .staIndx b => Sys2Proof.Machine.execStaIndx b s
  | .staZp b => Sys2Proof.Machine.execStaZp b s
  | .staAbs a => Sys2Proof.Machine.execStaAbs a s
  | .staIndy b => Sys2Proof.Machine.execStaIndy b s
  | .staZpx b => Sys2Proof.Machine.execStaZpx b s
  | .staAbsy a => Sys2Proof.Machine.execStaAbsy a s
  | .staAbsx a => Sys2Proof.Machine.execStaAbsx a s
  -- STX (R114)
  | .stxZp b => Sys2Proof.Machine.execStxZp b s
  | .stxAbs a => Sys2Proof.Machine.execStxAbs a s
  | .stxZpy b => Sys2Proof.Machine.execStxZpy b s
  -- STY (R115)
  | .styZp b => Sys2Proof.Machine.execStyZp b s
  | .styAbs a => Sys2Proof.Machine.execStyAbs a s
  | .styZpx b => Sys2Proof.Machine.execStyZpx b s
  -- TAX (R116)
  | .tax => Sys2Proof.Machine.execTax s
  -- TAY (R117)
  | .tay => Sys2Proof.Machine.execTay s
  -- TXA (R118)
  | .txa => Sys2Proof.Machine.execTxa s
  -- TYA (R119)
  | .tya => Sys2Proof.Machine.execTya s
  -- TSX (R120)
  | .tsx => Sys2Proof.Machine.execTsx s
  -- TXS (R121)
  | .txs => Sys2Proof.Machine.execTxs s
  -- PHA (R130)
  | .pha => Sys2Proof.Machine.execPha s
  -- PHP (R131)
  | .php => Sys2Proof.Machine.execPhp s
  -- PLA (R132)
  | .pla => Sys2Proof.Machine.execPla s
  -- PLP (R133)
  | .plp => Sys2Proof.Machine.execPlp s
  -- ADC (R142)
  | .adcIndx b => Sys2Proof.Machine.execAdcIndx b s
  | .adcZp b => Sys2Proof.Machine.execAdcZp b s
  | .adcImm b => Sys2Proof.Machine.execAdcImm b s
  | .adcAbs a => Sys2Proof.Machine.execAdcAbs a s
  | .adcIndy b => Sys2Proof.Machine.execAdcIndy b s
  | .adcZpx b => Sys2Proof.Machine.execAdcZpx b s
  | .adcAbsy a => Sys2Proof.Machine.execAdcAbsy a s
  | .adcAbsx a => Sys2Proof.Machine.execAdcAbsx a s
  -- SBC (R143)
  | .sbcIndx b => Sys2Proof.Machine.execSbcIndx b s
  | .sbcZp b => Sys2Proof.Machine.execSbcZp b s
  | .sbcImm b => Sys2Proof.Machine.execSbcImm b s
  | .sbcAbs a => Sys2Proof.Machine.execSbcAbs a s
  | .sbcIndy b => Sys2Proof.Machine.execSbcIndy b s
  | .sbcZpx b => Sys2Proof.Machine.execSbcZpx b s
  | .sbcAbsy a => Sys2Proof.Machine.execSbcAbsy a s
  | .sbcAbsx a => Sys2Proof.Machine.execSbcAbsx a s
  -- AND (R144)
  | .andIndx b => Sys2Proof.Machine.execAndIndx b s
  | .andZp b => Sys2Proof.Machine.execAndZp b s
  | .andImm b => Sys2Proof.Machine.execAndImm b s
  | .andAbs a => Sys2Proof.Machine.execAndAbs a s
  | .andIndy b => Sys2Proof.Machine.execAndIndy b s
  | .andZpx b => Sys2Proof.Machine.execAndZpx b s
  | .andAbsy a => Sys2Proof.Machine.execAndAbsy a s
  | .andAbsx a => Sys2Proof.Machine.execAndAbsx a s
  -- ORA (R145)
  | .oraIndx b => Sys2Proof.Machine.execOraIndx b s
  | .oraZp b => Sys2Proof.Machine.execOraZp b s
  | .oraImm b => Sys2Proof.Machine.execOraImm b s
  | .oraAbs a => Sys2Proof.Machine.execOraAbs a s
  | .oraIndy b => Sys2Proof.Machine.execOraIndy b s
  | .oraZpx b => Sys2Proof.Machine.execOraZpx b s
  | .oraAbsy a => Sys2Proof.Machine.execOraAbsy a s
  | .oraAbsx a => Sys2Proof.Machine.execOraAbsx a s
  -- EOR (R146)
  | .eorIndx b => Sys2Proof.Machine.execEorIndx b s
  | .eorZp b => Sys2Proof.Machine.execEorZp b s
  | .eorImm b => Sys2Proof.Machine.execEorImm b s
  | .eorAbs a => Sys2Proof.Machine.execEorAbs a s
  | .eorIndy b => Sys2Proof.Machine.execEorIndy b s
  | .eorZpx b => Sys2Proof.Machine.execEorZpx b s
  | .eorAbsy a => Sys2Proof.Machine.execEorAbsy a s
  | .eorAbsx a => Sys2Proof.Machine.execEorAbsx a s
  -- CMP (R147)
  | .cmpIndx b => Sys2Proof.Machine.execCmpIndx b s
  | .cmpZp b => Sys2Proof.Machine.execCmpZp b s
  | .cmpImm b => Sys2Proof.Machine.execCmpImm b s
  | .cmpAbs a => Sys2Proof.Machine.execCmpAbs a s
  | .cmpIndy b => Sys2Proof.Machine.execCmpIndy b s
  | .cmpZpx b => Sys2Proof.Machine.execCmpZpx b s
  | .cmpAbsy a => Sys2Proof.Machine.execCmpAbsy a s
  | .cmpAbsx a => Sys2Proof.Machine.execCmpAbsx a s
  -- CPX (R148)
  | .cpxImm b => Sys2Proof.Machine.execCpxImm b s
  | .cpxZp b => Sys2Proof.Machine.execCpxZp b s
  | .cpxAbs a => Sys2Proof.Machine.execCpxAbs a s
  -- CPY (R149)
  | .cpyImm b => Sys2Proof.Machine.execCpyImm b s
  | .cpyZp b => Sys2Proof.Machine.execCpyZp b s
  | .cpyAbs a => Sys2Proof.Machine.execCpyAbs a s
  -- BIT (R150)
  | .bitZp b => Sys2Proof.Machine.execBitZp b s
  | .bitAbs a => Sys2Proof.Machine.execBitAbs a s
  -- INC (R155)
  | .incZp b => Sys2Proof.Machine.execIncZp b s
  | .incAbs a => Sys2Proof.Machine.execIncAbs a s
  | .incZpx b => Sys2Proof.Machine.execIncZpx b s
  | .incAbsx a => Sys2Proof.Machine.execIncAbsx a s
  -- INX (R156)
  | .inx => Sys2Proof.Machine.execInx s
  -- INY (R157)
  | .iny => Sys2Proof.Machine.execIny s
  -- DEC (R158)
  | .decZp b => Sys2Proof.Machine.execDecZp b s
  | .decAbs a => Sys2Proof.Machine.execDecAbs a s
  | .decZpx b => Sys2Proof.Machine.execDecZpx b s
  | .decAbsx a => Sys2Proof.Machine.execDecAbsx a s
  -- DEX (R159)
  | .dex => Sys2Proof.Machine.execDex s
  -- DEY (R160)
  | .dey => Sys2Proof.Machine.execDey s
  -- ASL (R161)
  | .aslZp b => Sys2Proof.Machine.execAslZp b s
  | .aslAcc => Sys2Proof.Machine.execAslAcc s
  | .aslAbs a => Sys2Proof.Machine.execAslAbs a s
  | .aslZpx b => Sys2Proof.Machine.execAslZpx b s
  | .aslAbsx a => Sys2Proof.Machine.execAslAbsx a s
  -- LSR (R162)
  | .lsrZp b => Sys2Proof.Machine.execLsrZp b s
  | .lsrAcc => Sys2Proof.Machine.execLsrAcc s
  | .lsrAbs a => Sys2Proof.Machine.execLsrAbs a s
  | .lsrZpx b => Sys2Proof.Machine.execLsrZpx b s
  | .lsrAbsx a => Sys2Proof.Machine.execLsrAbsx a s
  -- ROL (R163)
  | .rolZp b => Sys2Proof.Machine.execRolZp b s
  | .rolAcc => Sys2Proof.Machine.execRolAcc s
  | .rolAbs a => Sys2Proof.Machine.execRolAbs a s
  | .rolZpx b => Sys2Proof.Machine.execRolZpx b s
  | .rolAbsx a => Sys2Proof.Machine.execRolAbsx a s
  -- ROR (R164)
  | .rorZp b => Sys2Proof.Machine.execRorZp b s
  | .rorAcc => Sys2Proof.Machine.execRorAcc s
  | .rorAbs a => Sys2Proof.Machine.execRorAbs a s
  | .rorZpx b => Sys2Proof.Machine.execRorZpx b s
  | .rorAbsx a => Sys2Proof.Machine.execRorAbsx a s
  -- JMP (R175, R176)
  | .jmpAbs a => Sys2Proof.Machine.execJmpAbs a s
  | .jmpInd a => Sys2Proof.Machine.execJmpInd a s
  -- JSR (R177)
  | .jsrAbs a => Sys2Proof.Machine.execJsrAbs a s
  -- RTS (R178)
  | .rts => Sys2Proof.Machine.execRts s
  -- RTI (R179)
  | .rti => Sys2Proof.Machine.execRti s
  -- BRK (R180)
  | .brk => Sys2Proof.Machine.execBrk s
  -- BPL (R182)
  | .bpl off => Sys2Proof.Machine.execBpl off s
  -- BMI (R183)
  | .bmi off => Sys2Proof.Machine.execBmi off s
  -- BVC (R184)
  | .bvc off => Sys2Proof.Machine.execBvc off s
  -- BVS (R185)
  | .bvs off => Sys2Proof.Machine.execBvs off s
  -- BCC (R186)
  | .bcc off => Sys2Proof.Machine.execBcc off s
  -- BCS (R187)
  | .bcs off => Sys2Proof.Machine.execBcs off s
  -- BNE (R188)
  | .bne off => Sys2Proof.Machine.execBne off s
  -- BEQ (R189)
  | .beq off => Sys2Proof.Machine.execBeq off s
  -- CLC (R200)
  | .clc => Sys2Proof.Machine.execClc s
  -- SEC (R201)
  | .sec => Sys2Proof.Machine.execSec s
  -- CLI (R202)
  | .cli => Sys2Proof.Machine.execCli s
  -- SEI (R203)
  | .sei => Sys2Proof.Machine.execSei s
  -- CLV (R204)
  | .clv => Sys2Proof.Machine.execClv s
  -- CLD (R205)
  | .cld => Sys2Proof.Machine.execCld s
  -- SED (R206)
  | .sed => Sys2Proof.Machine.execSed s
  -- NOP (R207)
  | .nop => Sys2Proof.Machine.execNop s

end Sys2Proof.Machine
end

