-- ==== Sys2Proof/Machine/Fetch.lean ====
section
/-! DEFINITION. Fetching an instruction (spec/30_encoding.md R80) and placing a word where the next step fetches it. -/

namespace Sys2Proof.Machine

/-- `n` bus reads from an address on, in order, wrapping modulo 65536 (R80, R54): the bytes and the state after. -/
def fetchBytes : Nat → Addr → State → List Byte × State
  | 0, _, s => ([], s)
  | n + 1, a, s =>
    let r := busRead a s
    let q := fetchBytes n (a + 1) r.2
    (r.1 :: q.1, q.2)

/-- What a fetch finds. -/
inductive Fetched where
  /-- A legal instruction, and the state with every byte of it read and `pc` past it. -/
  | instr (i : Instr) (s : State)
  /-- An illegal opcode byte, and the state after the one read of it. -/
  | illegal (op : Byte) (s : State)
deriving DecidableEq, Repr

/-- The prologue of a fetch step (R80): read the opcode byte; if it is legal read its operand bytes, decode, and advance
`pc` by the length. -/
def fetch (s : State) : Fetched :=
  let r := busRead s.pc s
  match opcodeLength r.1 with
  | none => .illegal r.1 r.2
  | some n =>
    let q := fetchBytes (n - 1) (s.pc + 1) r.2
    match decode (r.1 :: q.1) with
    | .ok d => .instr d.1 (q.2.setPc (s.pc + BitVec.ofNat 16 n))
    | .error _ => .illegal r.1 r.2

/-! ## Placing a word (the host's `withFetchWord`, log 2) -/

/-- An address whose byte the model can place: internal RAM, SRAM when present, PRG. -/
def placeable (a : Addr) (s : State) : Bool :=
  decide (a.toNat < 0x2000) || (decide (0x6000 ≤ a.toNat) && (s.cart.hasSram || decide (0x8000 ≤ a.toNat)))

/-- Put a byte in the storage behind an address; PRG is filled as a cartridge load would. -/
def place (a : Addr) (b : Byte) (s : State) : State :=
  if a.toNat < 0x2000 then s.setRam (s.ram.write (a.toNat % 0x0800) b)
  else if a.toNat < 0x8000 then s.setSram (s.sram.write (a.toNat - 0x6000) b)
  else s.setCart { s.cart with prg := s.cart.prg.write (prgIndex s.cart a) b }

/-- Place bytes at successive addresses. -/
def placeBytes : List Byte → Addr → State → State
  | [], _, s => s
  | b :: bs, a, s => placeBytes bs (a + 1) (place a b s)

/-- The state at whose next step the CPU fetches: not halted, no idle step left, no NMI latched, and the CPU's tick phase
(the last multiple of 4 not above `master`). -/
def readyToFetch (s : State) : State :=
  (((s.setHalted none).setPending 0).setNmiLatch false).setMaster (s.master - s.master % 4)

/-- Place a table word where the next step fetches it: at `pc`, or, where one of the three bytes there has no storage, at
address 0x0000 with `pc` moved there. -/
def placeFetchWord (s : State) (nbits w : Nat) : State :=
  let t := readyToFetch s
  let ok := placeable t.pc t && placeable (t.pc + 1) t && placeable (t.pc + 2) t
  let u := if ok then t else t.setPc 0x0000
  placeBytes (tableBytes nbits w) u.pc u

end Sys2Proof.Machine
end

