-- ==== Sys2Proof/Machine/PpuStep.lean ====
section
/-! DEFINITION. The second agent: one PPU cycle (spec/50_ppu.md R240 to R246), the pixel pipeline and the frame-buffer
writer (R250, R251). The mask does not gate the pipeline (R253) and sprites are never drawn (R254). -/

namespace Sys2Proof.Machine

/-- Bit `i` of a byte as a number. -/
def bitAt (v : Byte) (i : Nat) : Nat := bit01 (v.getLsbD i)

/-- A PPU bus read at an address computed as a number, `& 0x3FFF` (R60). -/
def ppuReadNat (a : Nat) (s : State) : Byte := ppuRead (BitVec.ofNat 14 a) s

/-- `table`: the background pattern table's base (R251). -/
def patternTable (u : Ppu) : Nat := if u.ctrl.getLsbD 4 then 0x1000 else 0x0000

/-- The byte `EmitPixel(px, sy)` stores (R250). -/
def pixelByte (px sy : Nat) (s : State) : Byte :=
  let X := (px + s.ppu.xScroll) % 512
  let Y := (sy + s.ppu.yScroll) % 480
  let nt := Y / 240 * 2 + X / 256
  let base := 0x2000 + 0x400 * nt
  let col := X % 256 / 8
  let row := Y % 240 / 8
  let fx := X % 8
  let fy := Y % 8
  let tile := ppuReadNat (base + row * 32 + col) s
  let attr := ppuReadNat (base + 0x3C0 + row / 4 * 8 + col / 4) s
  let sh := row / 2 % 2 * 4 + col / 2 % 2 * 2
  let sel := attr.toNat / 2 ^ sh % 4
  let pa := patternTable s.ppu + tile.toNat * 16 + fy
  let p0 := ppuReadNat pa s
  let p1 := ppuReadNat (pa + 8) s
  let pix := bitAt p1 (7 - fx) * 2 + bitAt p0 (7 - fx)
  ppuReadNat (0x3F00 + (sel * 4 + pix)) s

/-- `EmitPixel(px, sy)`: write `FB[sy * 256 + px]` (R250). -/
def emitPixel (px sy : Nat) (s : State) : State := s.setFb (s.fb.write (sy * 256 + px) (pixelByte px sy s))

/-- The length of PreRendering: 339 on odd frames with both rendering bits set, else 340 (R241). -/
def preRenderingLength (u : Ppu) : Nat :=
  if u.parity && u.mask.getLsbD 3 && u.mask.getLsbD 4 then 339 else 340

/-- One cycle of PreRendering (R241). -/
def stepPreRendering (s : State) : State :=
  let u := if s.ppu.cycle = 1 then { s.ppu with vblank := false } else s.ppu
  if preRenderingLength u ≤ u.cycle + 1 then
    s.setPpu { u with stage := .rendering, scanline := 0, cycle := 0 }
  else s.setPpu { u with cycle := u.cycle + 1 }

/-- One cycle of Rendering (R242); `frame_ready` is set as scanline 239 completes (R252). -/
def stepRendering (s : State) : State :=
  let t := if 1 ≤ s.ppu.cycle ∧ s.ppu.cycle ≤ 256 then emitPixel (s.ppu.cycle - 1) s.ppu.scanline s else s
  let u := t.ppu
  if 340 < u.cycle + 1 then
    if u.scanline + 1 = 240 then
      (t.setPpu { u with cycle := 0, scanline := u.scanline + 1, stage := .postRendering }).setFrameReady true
    else t.setPpu { u with cycle := 0, scanline := u.scanline + 1 }
  else t.setPpu { u with cycle := u.cycle + 1 }

/-- The step that sets the vblank flag: scanline 241 cycle 1 (R243, R245). -/
def atVblankEdge (u : Ppu) : Bool := u.scanline == 241 && u.cycle == 1

/-- One cycle of PostRendering (R243); the parity toggles on the way to PreRendering (R244). -/
def stepPostRendering (s : State) : State :=
  let u := if atVblankEdge s.ppu then { s.ppu with vblank := true } else s.ppu
  if 340 < u.cycle + 1 then
    if u.scanline + 1 = 261 then
      s.setPpu { u with cycle := 0, scanline := u.scanline + 1, stage := .preRendering, parity := !u.parity }
    else s.setPpu { u with cycle := 0, scanline := u.scanline + 1 }
  else s.setPpu { u with cycle := u.cycle + 1 }

/-- `PpuStep`: the vblank edge (R246) and the state after the cycle (R240). -/
def ppuStep (s : State) : Bool × State :=
  match s.ppu.stage with
  | .preRendering => (false, stepPreRendering s)
  | .rendering => (false, stepRendering s)
  | .postRendering => (atVblankEdge s.ppu, stepPostRendering s)

end Sys2Proof.Machine
end

