-- ==== Sys2Proof/Machine/Orchestrator.lean ====
section
/-! DEFINITION. The CPU step (spec/60_exceptions.md R290), the vblank to NMI routing (R283, R284) and the master tick
(R296, R297). -/

namespace Sys2Proof.Machine

/-- Apply a function to the next state. -/
def afterNext (f : State → State) : Host.Outcome State Fault Refusal → Host.Outcome State Fault Refusal
  | .next s => .next (f s)
  | .fault r => .fault r
  | .refused r => .refused r

/-- `raise IllegalOpcode(op, addr)` (R271): `t` is the state after the opcode read, `s` the state before the step, whose
cycle count is kept. -/
def raiseIllegalOpcode (op : Byte) (s t : State) : State :=
  (t.setCycles s.cycles).setHalted (some { op := op, addr := s.pc })

/-- The fetch step (spec/30_encoding.md R80): `s` is the state before the CPU step, whose cycle is counted here. -/
def fetchStep (s : State) : Host.Outcome State Fault Refusal :=
  match fetch (s.setCycles (s.cycles + 1)) with
  | .illegal op t => .next (raiseIllegalOpcode op s t)
  | .instr i t => exec i t

/-- `CpuStep` of a machine that is not halted: idle step, NMI entry or fetch step, in this priority (R287, R290). -/
def cpuStep (s : State) : Host.Outcome State Fault Refusal :=
  if 0 < s.pending then .next ((s.setCycles (s.cycles + 1)).setPending (s.pending - 1))
  else if s.nmiLatch then .next (nmiEntry (s.setCycles (s.cycles + 1)))
  else fetchStep s

/-- The edge is forwarded: always with `NMI_GATED` false, by control bit 7 with it true (R283, R284). -/
def forwardsEdge (s : State) : Bool := !s.params.nmiGated || s.ppu.ctrl.getLsbD 7

/-- The PPU's part of a tick: one PPU step, then the routing of its edge (R283, R296). -/
def ppuTick (s : State) : State :=
  let r := ppuStep s
  if r.1 && forwardsEdge r.2 then r.2.setNmiLatch true else r.2

/-- `master <- master + 1`. -/
def countTick (s : State) : State := s.setMaster (s.master + 1)

/-- `Tick` (R296). A halted machine changes nothing and its every tick reports the error (R297): the model's fault
(log 4). -/
def tick (s : State) : Host.Outcome State Fault Refusal :=
  match s.halted with
  | some h => .fault (.illegalOpcode h.op h.addr)
  | none => if s.master % 4 = 0 then afterNext countTick (cpuStep s) else .next (countTick (ppuTick s))

end Sys2Proof.Machine
end

