-- ==== Sys2Proof/Machine/Step.lean ====
section
/-! DEFINITION. The machine's step is one master tick (spec/60_exceptions.md R296, log 4). -/

namespace Sys2Proof.Machine

/-- One master-clock unit. -/
def step (s : State) : Host.Outcome State Fault Refusal := tick s

/-- `s` with a table word stored where `step` fetches its next instruction, ready to fetch it (log 2). -/
def State.withFetchWord (s : State) (nbits w : Nat) : State := placeFetchWord s nbits w

end Sys2Proof.Machine
end

