-- ==== Sys2Proof/Machine/Cartridge.lean ====
section
/-! DEFINITION. Loading a cartridge image (spec/70_reset_and_hazards.md R315 to R321). -/

namespace Sys2Proof.Machine

/-- Why a load is refused (spec/60_exceptions.md R273, R274). -/
inductive LoadError where
  /-- "malformed header, bad unit counts" (R317). -/
  | formatError
  /-- "any non-base mapper id" (R318). -/
  | unsupportedMapper (id : Byte)
deriving DecidableEq, Repr

/-- Byte `i` of an image. -/
def imageByte (image : List Byte) (i : Nat) : Byte := image.getD i 0x00

/-- Bytes 0 to 3: "NES" followed by 0x1A (R316). -/
def signature : List Byte := [0x4E, 0x45, 0x53, 0x1A]

/-- Where PRG begins: after the header and the trainer, if one is present (R315, R316). -/
def prgOffset (image : List Byte) : Nat := 16 + (if (imageByte image 6).getLsbD 2 then 512 else 0)

/-- The payload's end (R315). -/
def imageEnd (image : List Byte) : Nat :=
  prgOffset image + 16384 * (imageByte image 4).toNat + 8192 * (imageByte image 5).toNat

/-- `MAPPER_ID = (byte[7] & 0xF0) | (byte[6] >> 4)` (R316). -/
def mapperOf (image : List Byte) : Byte := (imageByte image 7 &&& (0xF0 : Byte)) ||| (imageByte image 6 >>> 4)

/-- Mirroring: bit 3 overrides bit 0 (R319). -/
def mirrorOf (image : List Byte) : Mirror :=
  if (imageByte image 6).getLsbD 3 then .none
  else if (imageByte image 6).getLsbD 0 then .vertical
  else .horizontal

/-- The five FormatError conditions, in the order they are tested (R317). -/
def malformed (image : List Byte) : Bool :=
  decide (image.length < 16) || image.take 4 != signature || ((imageByte image 4) != 1 && (imageByte image 4) != 2)
    || imageByte image 5 == 0 || decide (image.length < imageEnd image)

/-- The cartridge an accepted image holds (R315, R316, R321); bytes after the payload are ignored. -/
def cartridgeOf (image : List Byte) : Cartridge :=
  let prgBytes := 16384 * (imageByte image 4).toNat
  { prgUnits := (imageByte image 4).toNat
    prg := Memory.ofBytes ((image.drop (prgOffset image)).take prgBytes)
    chrUnits := (imageByte image 5).toNat
    chr := Memory.ofBytes ((image.drop (prgOffset image + prgBytes)).take (8192 * (imageByte image 5).toNat))
    hasSram := (imageByte image 6).getLsbD 1
    mapperId := mapperOf image
    mirror := mirrorOf image }

/-- `loadRom(bytes)`: a cartridge or an error, "no partial state on failure" (R320); the mapper is tested last (R318). -/
def loadRom (image : List Byte) : Except LoadError Cartridge :=
  if malformed image then .error .formatError
  else if mapperOf image != 0x00 then .error (.unsupportedMapper (mapperOf image))
  else .ok (cartridgeOf image)

end Sys2Proof.Machine
end

