-- ==== Sys2Proof/Machine/HostOps.lean ====
section
/-! DEFINITION. The host-facing operations (spec/70_reset_and_hazards.md R310 to R312, R322). -/

namespace Sys2Proof.Machine

/-- CPU reset (R310). -/
def cpuReset (s : State) : State :=
  let v := busRead16 resetVector s
  { v.2 with pc := v.1, a := 0x00, x := 0x00, y := 0x00, p := 0x24, sp := 0xFD, cycles := 0, pending := 0 }

/-- Machine reset, the host's `reset()`: the memories and the AddressError record are unchanged (R311). -/
def hostReset (s : State) : State :=
  { cpuReset s with halted := none, nmiLatch := false, frameReady := false, master := 0, ppu := Ppu.reset }

/-- Power-on, the host's `init(cartridge)` (R312, spec/10_state.md R32): SRAM is there exactly when the cartridge has it. -/
def powerOn (c : Cartridge) (ps : Params) (m : Inits) : State :=
  cpuReset
    { a := 0x00, x := 0x00, y := 0x00, sp := 0xFD, p := 0x24, pc := 0x0000, cycles := 0, pending := 0,
      halted := none, addrError := none, addrErrorCount := 0, nmiLatch := false, ram := m.ram, ppu := Ppu.reset,
      vram := m.vram, oam := m.oam, pal := m.pal, fb := m.fb, frameReady := false,
      sram := if c.hasSram then m.sram else [], master := 0, cart := c, params := ps }

/-- The host's `tick()`: the state after one tick and the error the tick reports, if any; a halted machine's tick changes
nothing (R296, R297, R322). -/
def hostTick (s : State) : State × Option Halt :=
  match step s with
  | .next t => (t, t.halted)
  | .fault _ => (s, s.halted)
  | .refused _ => (s, s.halted)

/-- `isFrameReady()` (R322). -/
def isFrameReady (s : State) : Bool := s.frameReady

/-- `takeFrame()`: the 61440 bytes of FB, row-major, and `frame_ready <- 0` (R322). -/
def takeFrame (s : State) : List Byte × State := (s.fb.toBytes 0 61440, s.setFrameReady false)

end Sys2Proof.Machine
end

