-- ==== Sys2Proof/Safety.lean ====
section
/-! DEFINITION. What counts as a sound state and a safe run, in the terms the claims use: the launch premises of
spec/10_state.md R34, the PPU timing invariants of R27, the canonical form of every memory, the cartridge's own invariants
(R30), and the end of a run (spec/70_reset_and_hazards.md R323). -/

namespace Sys2Proof.Machine

/-- `(x[P] & 0x30) == 0x20` (R14). -/
def statusOk (s : State) : Bool := s.p &&& 0x30 == 0x20

/-- The stage goes with the scanline, and the cycle lies in the stage's range (R27, spec/50_ppu.md R240). -/
def timingOk (u : Ppu) : Bool :=
  match u.stage with
  | .preRendering => u.scanline == 261 && decide (u.cycle ≤ 339)
  | .rendering => decide (u.scanline ≤ 239) && decide (u.cycle ≤ 340)
  | .postRendering => decide (240 ≤ u.scanline) && decide (u.scanline ≤ 260) && decide (u.cycle ≤ 340)

/-- The scroll latches lie in their ranges (R26). -/
def scrollOk (u : Ppu) : Bool := decide (u.xScroll < 512) && decide (u.yScroll < 480)

/-- The pending counter's bound: 6 without OAM-DMA, 520 with it (R16). -/
def pendingOk (s : State) : Bool := decide (s.pending ≤ if s.params.oamDmaEnable then 520 else 6)

/-- A memory in canonical form inside its size. -/
def memoryOk (m : Memory) (size : Nat) : Bool := m.wf && m.within size

/-- Every memory is in canonical form inside its size (R18, R28, R29, R30); absent SRAM holds nothing (log 8). -/
def memoriesOk (s : State) : Bool :=
  memoryOk s.ram 2048 && memoryOk s.vram 2048 && memoryOk s.oam 256 && memoryOk s.pal 32 && memoryOk s.fb 61440
    && memoryOk s.sram (if s.cart.hasSram then 8192 else 0)

/-- "PRG unit count ∈ 1, 2; CHR unit count ≥ 1; mapper 0" and the image lengths (R30). -/
def cartOk (c : Cartridge) : Bool :=
  (c.prgUnits == 1 || c.prgUnits == 2) && decide (1 ≤ c.chrUnits) && c.mapperId == 0x00
    && memoryOk c.prg (16384 * c.prgUnits) && memoryOk c.chr (8192 * c.chrUnits)

/-- The machine's invariant. -/
def Invariant (s : State) : Bool :=
  statusOk s && timingOk s.ppu && scrollOk s.ppu && pendingOk s && memoriesOk s && cartOk s.cart

/-- The launch premises, all of them: a machine that is not halted, with its status bits, PPU timing, data-port address, scroll and
pending counter in range (R34). A halted machine keeps `Invariant` and not this (log 13). -/
def launchOk (s : State) : Bool :=
  statusOk s && s.halted == none && timingOk s.ppu && decide (s.ppu.vaddr.toNat < 0x4000) && scrollOk s.ppu && pendingOk s

/-- The CPU is at an instruction boundary of a running machine: the next step is a fetch step (R287, R290). -/
def atFetch (s : State) : Bool :=
  s.halted == none && s.master % 4 == 0 && s.pending == 0 && !s.nmiLatch

/-- A run has ended at address `e`: at an instruction boundary with no NMI latched, `pc = e`, and the bytes there are
`JMP *` (R323). It does not say that the machine stops. -/
def endedAt (e : Addr) (s : State) : Bool :=
  atFetch s && s.pc == e && (fetchBytes 3 e s).1 == [0x4C, lo e, hi e]

/-- States reached by `n` steps, none of them a fault: a safe run of that length. -/
def runs : Nat → State → State → Prop
  | 0, s, t => s = t
  | n + 1, s, t => ∃ u, step s = .next u ∧ runs n u t

end Sys2Proof.Machine
end

