-- ==== Sys2Proof/Certificates/Slice0/Obligations.lean ====
section
/-! DEFINITION. The statements for the provers. The definitions of namespace Sys2Proof.Claims say in numbers, independently of
the machine's own operations, what the spec's rules compute; the statements compare the machine with them. A statement that
an instruction's next state is `{ … with … }` states the instruction's frame too: whatever is not named is unchanged. -/

namespace Sys2Proof.Claims

open Sys2Proof.Machine

/-! ## Operands, addresses and costs, from spec/30_encoding.md R81 to R104 -/

/-- The memory operand of an instruction: its mode with its operand bytes, the first byte low (R83). -/
def memOf (i : Instr) : Option MemOp :=
  match i.row.mode, i.operands with
  | .zp, [b] => some (.zp b)
  | .zpx, [b] => some (.zpx b)
  | .zpy, [b] => some (.zpy b)
  | .abs, [l, h] => some (.abs (BitVec.ofNat 16 (h.toNat * 256 + l.toNat)))
  | .absx, [l, h] => some (.absx (BitVec.ofNat 16 (h.toNat * 256 + l.toNat)))
  | .absy, [l, h] => some (.absy (BitVec.ofNat 16 (h.toNat * 256 + l.toNat)))
  | .indx, [b] => some (.indx b)
  | .indy, [b] => some (.indy b)
  | _, _ => none

/-- The source operand of an instruction: the immediate byte or memory. -/
def srcOf (i : Instr) : Option Src :=
  match i.row.mode, i.operands with
  | .imm, [b] => some (.imm b)
  | _, _ => (memOf i).map Src.mem

/-- The little-endian pointer at a page-zero address, its second byte wrapping inside page zero (R95, R96). -/
def pointer (z : Nat) (s : State) : Nat :=
  (s.ram.read (z % 256)).toNat + 256 * (s.ram.read ((z + 1) % 256)).toNat

/-- `base16`, the address before the index register is added (R104); for the other modes `EA` itself. -/
def base16 (m : MemOp) (s : State) : Nat :=
  match m with
  | .zp b => b.toNat
  | .zpx b => (b.toNat + s.x.toNat) % 256
  | .zpy b => (b.toNat + s.y.toNat) % 256
  | .abs a => a.toNat
  | .absx a => a.toNat
  | .absy a => a.toNat
  | .indx b => pointer ((b.toNat + s.x.toNat) % 256) s
  | .indy b => pointer b.toNat s

/-- `EA` (R88 to R96). -/
def ea (m : MemOp) (s : State) : Nat :=
  match m with
  | .absx a => (a.toNat + s.x.toNat) % 65536
  | .absy a => (a.toNat + s.y.toNat) % 65536
  | .indy b => (pointer b.toNat s + s.y.toNat) % 65536
  | m => base16 m s

/-- `EA` as an address. -/
def eaAddr (m : MemOp) (s : State) : Addr := BitVec.ofNat 16 (ea m s)

/-- The page-cross penalty of a table row (R104). -/
def penalty (pageCross : Bool) (m : MemOp) (s : State) : Nat :=
  if pageCross && base16 m s / 256 != ea m s / 256 then 1 else 0

/-- The state with `cost - 1` idle steps pending (R81). -/
def costing (cost : Nat) (s : State) : State := { s with pending := cost - 1 }

/-- "fetch M" of instruction `i`: the operand's byte, and the state after reading it, with the instruction's cost. -/
def operand (i : Instr) (o : Src) (s : State) : Byte × State :=
  match o with
  | .imm b => (b, costing i.row.base s)
  | .mem m => busRead (eaAddr m s) (costing (i.row.base + penalty i.row.pageCross m s) s)

/-- The mnemonics whose memory forms write `EA`. -/
def writesEa : List Mnemonic := [.sta, .stx, .sty, .inc, .dec, .asl, .lsr, .rol, .ror]

/-- The optional OAM-DMA cost of an instruction that writes 0x4014 (spec/20_memory.md R45). -/
def dmaCost (i : Instr) (s : State) : Nat :=
  match memOf i with
  | some m =>
    if s.params.oamDmaEnable && writesEa.contains i.row.mnemonic && ea m s == 0x4014 then 513 + s.cycles.toNat % 2 else 0
  | none => 0

/-- The condition of a conditional branch (spec/44_control.md R182 to R189). -/
def branchTaken (m : Mnemonic) (p : Byte) : Option Bool :=
  match m with
  | .bpl => some (p.toNat / 128 % 2 == 0)
  | .bmi => some (p.toNat / 128 % 2 == 1)
  | .bvc => some (p.toNat / 64 % 2 == 0)
  | .bvs => some (p.toNat / 64 % 2 == 1)
  | .bcc => some (p.toNat % 2 == 0)
  | .bcs => some (p.toNat % 2 == 1)
  | .bne => some (p.toNat / 2 % 2 == 0)
  | .beq => some (p.toNat / 2 % 2 == 1)
  | _ => none

/-- The target of a branch: the following instruction's address plus the signed offset, modulo 65536 (R97, R181). -/
def target (off : Byte) (pc : Addr) : Addr := BitVec.ofInt 16 ((pc.toNat : Int) + off.toInt)

/-- The branch penalties (R181). -/
def branchCost (i : Instr) (s : State) : Nat :=
  match branchTaken i.row.mnemonic s.p, i.operands with
  | some true, [off] => if (target off s.pc).toNat / 256 = s.pc.toNat / 256 then 1 else 2
  | _, _ => 0

/-- The page-cross penalty of an instruction. -/
def pageCost (i : Instr) (s : State) : Nat :=
  match memOf i with
  | some m => penalty i.row.pageCross m s
  | none => 0

/-! ## Bytes and flags -/

/-- The high byte of a word. -/
def high (w : Addr) : Byte := BitVec.ofNat 8 (w.toNat / 256)

/-- The low byte of a word. -/
def low (w : Addr) : Byte := BitVec.ofNat 8 (w.toNat % 256)

/-- The word of two bytes. -/
def join (h l : Byte) : Addr := BitVec.ofNat 16 (h.toNat * 256 + l.toNat)

/-- The RAM index of a stack byte `k` above the one `x[S]` names, wrapping in the page, so that 255 is one below and 254 two
below (spec/41_stack.md R134). -/
def stackIndex (sp : Byte) (k : Nat) : Nat := 0x100 + (sp.toNat + k) % 256

/-- A status byte with C replaced. -/
def setCarry (c : Bool) (p : Byte) : Byte := (p &&& 0xFE) ||| (if c then 0x01 else 0x00)

/-- A status byte with V replaced. -/
def setOverflow (v : Bool) (p : Byte) : Byte := (p &&& 0xBF) ||| (if v then 0x40 else 0x00)

/-- A status byte after `SetNZ(v)`: Z set exactly when v = 0, N the byte's bit 7, the rest as before
(spec/00_scope.md R8). -/
def setNegZero (v p : Byte) : Byte := (p &&& 0x7D) ||| (if v = 0 then 0x02 else 0x00) ||| (v &&& 0x80)

/-- The carry of a status byte. -/
def carry (p : Byte) : Nat := p.toNat % 2

/-- A number that a signed byte cannot hold. -/
def outsideSigned (n : Int) : Bool := decide (n < -128) || decide (127 < n)

/-- A, the result of ADC, from its sum; N, V, Z, C likewise (spec/42_arith_logic.md R140, R142). -/
def addResult (m : Byte) (s : State) : State :=
  let t := s.a.toNat + m.toNat + carry s.p
  let r : Byte := BitVec.ofNat 8 t
  { s with
    a := r
    p := setNegZero r (setOverflow (outsideSigned (s.a.toInt + m.toInt + carry s.p)) (setCarry (decide (256 ≤ t)) s.p)) }

/-- A, the result of SBC, from `A - M - (1 - C)`: C is no borrow, V the signed difference out of range (R140, R143). -/
def subResult (m : Byte) (s : State) : State :=
  let d : Int := (s.a.toNat : Int) - m.toNat - (1 - carry s.p)
  let r : Byte := BitVec.ofInt 8 d
  { s with
    a := r
    p := setNegZero r (setOverflow (outsideSigned (s.a.toInt - m.toInt - (1 - carry s.p))) (setCarry (decide (0 ≤ d)) s.p)) }

/-- The result of a shift or rotate and the bit it puts in C, from the byte and the old carry (spec/43_inc_dec_shift.md R161
to R164). -/
def shifted (m : Mnemonic) (v : Byte) (c : Nat) : Option (Byte × Bool) :=
  match m with
  | .asl => some (BitVec.ofNat 8 (2 * v.toNat), decide (128 ≤ v.toNat))
  | .lsr => some (BitVec.ofNat 8 (v.toNat / 2), v.toNat % 2 == 1)
  | .rol => some (BitVec.ofNat 8 (2 * v.toNat + c), decide (128 ≤ v.toNat))
  | .ror => some (BitVec.ofNat 8 (v.toNat / 2 + 128 * c), v.toNat % 2 == 1)
  | _ => none

/-- The status byte after a flag instruction or NOP (spec/45_flags_nop.md R200 to R207). -/
def flagEffect (m : Mnemonic) (p : Byte) : Option Byte :=
  match m with
  | .clc => some (p &&& 0xFE)
  | .sec => some (p ||| 0x01)
  | .cli => some (p &&& 0xFB)
  | .sei => some (p ||| 0x04)
  | .clv => some (p &&& 0xBF)
  | .cld => some (p &&& 0xF7)
  | .sed => some (p ||| 0x08)
  | .nop => some p
  | _ => none

/-- The step at `s` is a fetch step that meets one of the 105 illegal bytes (spec/60_exceptions.md R271). -/
def meetsIllegalOpcode (s : State) : Prop := atFetch s = true ∧ (busRead s.pc s).1.toNat ∈ illegalOpcodes

/-- The PPU-bus address an instruction's write of the data port reaches; a read-modify-write has read the port before, which
advances the address (spec/50_ppu.md R233, R234; spec/43_inc_dec_shift.md R165). -/
def dataAddr (i : Instr) (s : State) : Nat :=
  if i.row.mnemonic ∈ [Mnemonic.sta, .stx, .sty] then s.ppu.vaddr.toNat
  else (s.ppu.vaddr.toNat + if s.ppu.ctrl.toNat / 4 % 2 = 1 then 32 else 1) % 0x4000

/-- The transfer's first `n` copies, in increasing order, each read through the CPU bus (spec/20_memory.md R45). -/
def dmaCopies (page : Byte) : Nat → State → State
  | 0, s => s
  | n + 1, s =>
    let t := dmaCopies page n s
    let r := busRead (join page (BitVec.ofNat 8 n)) t
    { r.2 with oam := t.oam.write ((t.ppu.oamAddr.toNat + n) % 256) r.1 }

/-- A page no read of which has a side effect: not in the PPU window, nor in the window of absent SRAM (R56). -/
def quietPage (page : Byte) (s : State) : Prop :=
  page.toNat < 0x20 ∨ 0x80 ≤ page.toNat ∨ (0x40 ≤ page.toNat ∧ (page.toNat < 0x60 ∨ s.cart.hasSram = true))

/-- The register a load, store or compare names. -/
def regOf (m : Mnemonic) : Option Reg :=
  match m with
  | .lda | .sta | .cmp => some .a
  | .ldx | .stx | .cpx => some .x
  | .ldy | .sty | .cpy => some .y
  | _ => none

/-- `n` PPU steps (spec/50_ppu.md R240). -/
def ppuSteps : Nat → State → State
  | 0, s => s
  | n + 1, s => ppuSteps n (ppuStep s).2

/-- How many of the next `n` PPU steps report the vblank edge (R246). -/
def edgesIn : Nat → State → Nat
  | 0, _ => 0
  | n + 1, s => (if (ppuStep s).1 then 1 else 0) + edgesIn n (ppuStep s).2

end Sys2Proof.Claims

open Sys2Proof Sys2Proof.Machine Sys2Proof.Claims

/-! ## Encoding -/

/-- Decoding the encoding of a well-formed instruction gives it back, with every operand value, whatever bytes follow
(spec/30_encoding.md R82, R83, R99). -/
def Obligations.DecodeEncodeRoundTrip : Prop :=
  ∀ (i : Instr) (rest : List Byte), i.wf = true → decode (encode i ++ rest) = .ok (i, rest)

/-- Every word has one meaning: what decodes to an instruction is that instruction's encoding, and the instruction is well
formed (R82, R84). -/
def Obligations.DecodedBytesAreTheEncoding : Prop :=
  ∀ (bs rest : List Byte) (i : Instr), decode bs = .ok (i, rest) → i.wf = true ∧ bs = encode i ++ rest

/-- The 105 bytes of R100 are illegal, and no other byte is. -/
def Obligations.IllegalOpcodesRefused : Prop :=
  illegalOpcodes.length = 105 ∧
  ∀ (op : Byte) (rest : List Byte), decode (op :: rest) = .error (.illegalOpcode op) ↔ op.toNat ∈ illegalOpcodes

/-- Words of R102 and of the vectors, written out byte by byte, decode to the instruction they stand for. -/
def Obligations.SpecWordsDecode : Prop :=
  decode [0xA9, 0x80] = .ok (.ldaImm 0x80, []) ∧
  decode [0xBD, 0x34, 0x12] = .ok (.ldaAbsx 0x1234, []) ∧
  decode [0x91, 0x20] = .ok (.staIndy 0x20, []) ∧
  decode [0x48] = .ok (.pha, []) ∧
  decode [0x69, 0x50] = .ok (.adcImm 0x50, []) ∧
  decode [0x7E, 0x00, 0x03] = .ok (.rorAbsx 0x0300, []) ∧
  decode [0x6C, 0xFC, 0xFF] = .ok (.jmpInd 0xFFFC, []) ∧
  decode [0xD0, 0xFB] = .ok (.bne 0xFB, []) ∧
  decode [0x18] = .ok (.clc, [])

/-! ## The step -/

/-- A fetch step runs the decoded instruction: when the bytes read at `pc` are the encoding of `i`, the tick is `exec i` on
the state with those bytes read, the cycle counted and `pc` past them, and then counts itself (R80; spec/60_exceptions.md
R290, R296). -/
def Obligations.StepRunsDecodedInstruction : Prop :=
  ∀ (s : State) (i : Instr), atFetch s = true →
    (fetchBytes i.length s.pc (s.setCycles (s.cycles + 1))).1 = encode i →
    step s = afterNext countTick
      (exec i ((fetchBytes i.length s.pc (s.setCycles (s.cycles + 1))).2.setPc (s.pc + BitVec.ofNat 16 i.length)))

/-- An illegal opcode byte sets the fatal latch and changes nothing else but what reading that byte changes; the cycle is
not counted, the tick is (R271, R297 as read in log 4). -/
def Obligations.IllegalOpcodeHalts : Prop :=
  ∀ s : State, atFetch s = true → (busRead s.pc s).1.toNat ∈ illegalOpcodes →
    step s = .next { (busRead s.pc s).2 with
      halted := some { op := (busRead s.pc s).1, addr := s.pc }, master := s.master + 1 }

/-- A halted machine stops with its error at every step, and a host tick of it changes nothing and reports the error (R297).
That the step's outcome is a fault is the model's form of it (log 4). -/
def Obligations.HaltedMachineFaults : Prop :=
  ∀ (s : State) (h : Halt), s.halted = some h →
    step s = .fault (.illegalOpcode h.op h.addr) ∧ hostTick s = (s, some h)

/-- An idle step changes the two counters only (R290). -/
def Obligations.IdleStepOnlyCounts : Prop :=
  ∀ s : State, s.halted = none → s.master % 4 = 0 → 0 < s.pending →
    step s = .next { s with cycles := s.cycles + 1, pending := s.pending - 1, master := s.master + 1 }

/-- The CPU step at an instruction boundary with the latch set is the NMI entry: three pushes, I set, pc from the NMI vector,
7 cycles (R286). -/
def Obligations.NmiEntryEffect : Prop :=
  ∀ s : State, s.halted = none → s.master % 4 = 0 → s.pending = 0 → s.nmiLatch = true →
    step s = .next { s with
      nmiLatch := false
      ram := ((s.ram.write (stackIndex s.sp 0) (high s.pc)).write (stackIndex s.sp 255) (low s.pc)).write
        (stackIndex s.sp 254) ((s.p &&& 0xEF) ||| 0x20)
      sp := s.sp - 3
      p := s.p ||| 0x04
      pc := join (readPrg 0xFFFB s.cart) (readPrg 0xFFFA s.cart)
      pending := 6
      cycles := s.cycles + 1
      master := s.master + 1 }

/-- A tick of the PPU's phase: the vblank edge, and it alone, sets the NMI latch (unless `NMI_GATED` and control bit 7 is
clear); the PPU touches its registers' counters and flag, the frame buffer and `frame_ready`, and nothing of the CPU
(R246, R283; spec/50_ppu.md R255). -/
def Obligations.PpuTickFrameAndNmiRouting : Prop :=
  ∀ s : State, s.halted = none → s.master % 4 ≠ 0 → ∃ t : State,
    step s = .next t ∧
    t = { s with ppu := t.ppu, fb := t.fb, frameReady := t.frameReady, nmiLatch := t.nmiLatch, master := s.master + 1 } ∧
    t.ppu = { s.ppu with
      vblank := t.ppu.vblank, cycle := t.ppu.cycle, scanline := t.ppu.scanline, stage := t.ppu.stage,
      parity := t.ppu.parity } ∧
    t.nmiLatch = (s.nmiLatch || (s.ppu.stage == .postRendering && s.ppu.scanline == 241 && s.ppu.cycle == 1
      && (!s.params.nmiGated || s.ppu.ctrl.getLsbD 7)))

/-- A tick of the CPU's phase leaves the PPU's position, the frame buffer and `frame_ready` alone, whatever it executes
(spec/50_ppu.md R240, R252; spec/60_exceptions.md R296). -/
def Obligations.CpuTickLeavesPpuPositionAndFrame : Prop :=
  ∀ s t : State, s.master % 4 = 0 → step s = .next t →
    t.ppu.cycle = s.ppu.cycle ∧ t.ppu.scanline = s.ppu.scanline ∧ t.ppu.stage = s.ppu.stage ∧
    t.ppu.parity = s.ppu.parity ∧ t.fb = s.fb ∧ t.frameReady = s.frameReady ∧ t.master = s.master + 1

/-- No run changes the cartridge's images and flags or the parameters (spec/10_state.md R33, spec/20_memory.md R51), which the
model carries in the state (log 5). -/
def Obligations.CartridgeAndParametersFixed : Prop :=
  ∀ (n : Nat) (s t : State), runs n s t → t.cart = s.cart ∧ t.params = s.params

/-! ## The invariant and the host operations -/

/-- Every step keeps the machine's invariant: the status byte's fixed bits, the PPU's timing and scroll ranges, the pending
counter's bound, every memory in canonical form inside its size, a legal cartridge (spec/10_state.md R14, R16, R26, R27,
R30). Every step keeps the launch premises of R34 too, but for one: the fatal latch is set by a fetch step that meets an
illegal opcode, and by no other (log 13). -/
def Obligations.StepKeepsInvariant : Prop :=
  ∀ s t : State, step s = .next t →
    (Invariant s = true → Invariant t = true) ∧
    (launchOk s = true → launchOk { t with halted := none } = true ∧ (t.halted ≠ none ↔ meetsIllegalOpcode s))

/-- The state after reset meets the invariant and the launch premises. Its cartridge, parameters and zero memories are the model's choice (log 1, log 3). -/
def Obligations.ResetMeetsInvariant : Prop := Invariant State.reset = true ∧ launchOk State.reset = true

/-- Power-on with any loaded cartridge, parameters and initial memories: the values of R32, `pc` the little-endian word at
0xFFFC, the launch premises, and the invariant (R310, R312; spec/10_state.md R34). That absent SRAM is an empty memory is the model's form (log 8). -/
def Obligations.PowerOnValues : Prop :=
  ∀ (c : Cartridge) (ps : Params) (m : Inits),
    powerOn c ps m =
      { a := 0, x := 0, y := 0, sp := 0xFD, p := 0x24, pc := join (readPrg 0xFFFD c) (readPrg 0xFFFC c), cycles := 0,
        pending := 0, halted := none, addrError := none, addrErrorCount := 0, nmiLatch := false, ram := m.ram,
        ppu := { ctrl := 0, mask := 0, vblank := false, oamAddr := 0, oamDma := 0, vaddr := 0, readBuf := 0, xScroll := 0,
                 yScroll := 0, w := false, cycle := 0, scanline := 261, stage := .preRendering, parity := false },
        vram := m.vram, oam := m.oam, pal := m.pal, fb := m.fb, frameReady := false,
        sram := if c.hasSram then m.sram else [], master := 0, cart := c, params := ps } ∧
    launchOk (powerOn c ps m) = true ∧
    (cartOk c = true → memoryOk m.ram 2048 = true → memoryOk m.vram 2048 = true → memoryOk m.oam 256 = true →
      memoryOk m.pal 32 = true → memoryOk m.fb 61440 = true → memoryOk m.sram 8192 = true →
      Invariant (powerOn c ps m) = true)

/-- The host's reset restarts the CPU, the PPU registers, the latches and the tick count, and leaves every memory and the
AddressError record, so that the launch premises hold; `takeFrame` gives the 61440 bytes row by row and clears `frame_ready` (spec/70_reset_and_hazards.md
R310, R311, R322). -/
def Obligations.HostResetAndTakeFrame : Prop :=
  ∀ s : State,
    hostReset s = { s with
      a := 0, x := 0, y := 0, sp := 0xFD, p := 0x24, pc := join (readPrg 0xFFFD s.cart) (readPrg 0xFFFC s.cart),
      cycles := 0, pending := 0, halted := none, nmiLatch := false, frameReady := false, master := 0,
      ppu := (powerOn s.cart s.params Inits.zero).ppu } ∧
    launchOk (hostReset s) = true ∧
    (takeFrame s).2 = { s with frameReady := false } ∧
    (takeFrame s).1.length = 61440 ∧
    ∀ px py : Nat, px < 256 → py < 240 → (takeFrame s).1[py * 256 + px]? = some (s.fb.read (py * 256 + px))

/-- Loading: the FormatError conditions of R317, then the mapper (R318), else the cartridge of R316, R319 and R321, whose
images are the payload's bytes (R315). -/
def Obligations.LoadRomResult : Prop :=
  ∀ img : List Byte,
    let b := fun k => (img.getD k 0).toNat
    let off := 16 + (if b 6 / 4 % 2 = 1 then 512 else 0)
    let bad := img.length < 16 ∨ ¬ (b 0 = 0x4E ∧ b 1 = 0x45 ∧ b 2 = 0x53 ∧ b 3 = 0x1A) ∨ ¬ (b 4 = 1 ∨ b 4 = 2) ∨ b 5 = 0 ∨
      img.length < off + 16384 * b 4 + 8192 * b 5
    let mapper := b 7 / 16 * 16 + b 6 / 16
    (bad → loadRom img = .error .formatError) ∧
    (¬ bad → mapper ≠ 0 → loadRom img = .error (.unsupportedMapper (BitVec.ofNat 8 mapper))) ∧
    (¬ bad → mapper = 0 → ∃ c : Cartridge, loadRom img = .ok c ∧
      c.prgUnits = b 4 ∧ c.chrUnits = b 5 ∧ c.mapperId = 0 ∧ c.hasSram = (b 6 / 2 % 2 == 1) ∧
      c.mirror = (if b 6 / 8 % 2 = 1 then .none else if b 6 % 2 = 1 then .vertical else .horizontal) ∧
      (∀ k, k < 16384 * b 4 → c.prg.read k = img.getD (off + k) 0) ∧
      (∀ k, k < 8192 * b 5 → c.chr.read k = img.getD (off + 16384 * b 4 + k) 0) ∧
      cartOk c = true)

/-! ## Rules over all instructions -/

/-- The effective address of every mode and the page-cross report: pointer reads lie in page zero and change nothing (R88 to
R93, R95, R96, R104, R81). -/
def Obligations.EffectiveAddress : Prop :=
  ∀ (m : MemOp) (t : Timing) (s : State),
    locate m t s = (eaAddr m s, { s with pending := t.base - 1 + penalty t.pageCross m s })

/-- Every instruction completes, in every state, with exactly its cycle cost: the base cost, the page-cross penalty, the branch
penalties, the optional OAM-DMA cost (R81, R99, R104; spec/44_control.md R181; spec/20_memory.md R45). -/
def Obligations.EveryInstructionCompletesAtItsCost : Prop :=
  ∀ (i : Instr) (s : State), ∃ t : State,
    exec i s = .next t ∧
    t.pending + 1 = i.row.base + pageCost i s + branchCost i s + dmaCost i s ∧
    t.cycles = s.cycles ∧ t.halted = s.halted ∧ t.nmiLatch = s.nmiLatch ∧ t.master = s.master

/-- Of the instructions only JMP, JSR, RTS, RTI, BRK and the branches write pc (spec/70_reset_and_hazards.md R331). -/
def Obligations.OnlyControlTransfersWritePc : Prop :=
  ∀ (i : Instr) (s : State),
    i.row.mnemonic ∉ [Mnemonic.jmp, .jsr, .rts, .rti, .brk, .bpl, .bmi, .bvc, .bvs, .bcc, .bcs, .bne, .beq] →
    ∃ t : State, exec i s = .next t ∧ t.pc = s.pc

/-- Each flag is written by the instructions that the "written by" column of R14 names and by no other, and the register's
fixed bits stay as they are; x[S] is written only by TXS, pushes, pulls, JSR, RTS, RTI and BRK (spec/10_state.md R12, R14). -/
def Obligations.FlagAndStackPointerWriters : Prop :=
  ∀ (i : Instr) (s : State), s.p &&& 0x30 = 0x20 → ∃ t : State, exec i s = .next t ∧ t.p &&& 0x30 = 0x20 ∧
    (i.row.mnemonic ∉ [Mnemonic.adc, .sbc, .bit, .clv, .plp, .rti] → t.p &&& 0x40 = s.p &&& 0x40) ∧
    (i.row.mnemonic ∉ [Mnemonic.sed, .cld, .plp, .rti] → t.p &&& 0x08 = s.p &&& 0x08) ∧
    (i.row.mnemonic ∉ [Mnemonic.sei, .cli, .brk, .plp, .rti] → t.p &&& 0x04 = s.p &&& 0x04) ∧
    (i.row.mnemonic ∉ [Mnemonic.adc, .sbc, .cmp, .cpx, .cpy, .asl, .lsr, .rol, .ror, .sec, .clc, .plp, .rti] →
      t.p &&& 0x01 = s.p &&& 0x01) ∧
    (i.row.mnemonic ∈ [Mnemonic.sta, .stx, .sty, .txs, .pha, .php, .jmp, .jsr, .rts, .brk, .bpl, .bmi, .bvc, .bvs, .bcc, .bcs,
        .bne, .beq, .clc, .sec, .cli, .sei, .clv, .cld, .sed, .nop] → t.p &&& 0x82 = s.p &&& 0x82) ∧
    (i.row.mnemonic ∉ [Mnemonic.txs, .pha, .php, .pla, .plp, .jsr, .rts, .rti, .brk] → t.sp = s.sp)

/-- An instruction that stores nothing leaves every memory as it was, and of the PPU's registers changes at most what a status
or data port read changes (spec/20_memory.md R56, spec/30_encoding.md R98). -/
def Obligations.NonStoringInstructionsKeepMemory : Prop :=
  ∀ (i : Instr) (s : State),
    (i.row.mnemonic ∉ [Mnemonic.sta, .stx, .sty, .inc, .dec, .pha, .php, .jsr, .brk, .asl, .lsr, .rol, .ror] ∨
      i.row.mode = .acc) →
    ∃ t : State, exec i s = .next t ∧
      t.ram = s.ram ∧ t.vram = s.vram ∧ t.oam = s.oam ∧ t.pal = s.pal ∧ t.fb = s.fb ∧ t.sram = s.sram ∧ t.cart = s.cart ∧
      t.ppu = { s.ppu with vblank := t.ppu.vblank, w := t.ppu.w, readBuf := t.ppu.readBuf, vaddr := t.ppu.vaddr }

/-! ## Loads, stores, transfers, stack -/

/-- LDA, LDX, LDY in every form: the operand to the register, N and Z from it (spec/40_load_store_transfer.md R110 to
R112). -/
def Obligations.LoadResult : Prop :=
  ∀ (i : Instr) (s : State), i.row.mnemonic ∈ [Mnemonic.lda, .ldx, .ldy] → ∃ (o : Src) (r : Reg),
    srcOf i = some o ∧ regOf i.row.mnemonic = some r ∧
    exec i s = .next (setReg r (operand i o s).1 { (operand i o s).2 with p := setNegZero (operand i o s).1 s.p })

/-- STA, STX, STY in every form and for every address: RAM through its mirrors, the PPU window, the OAM-DMA latch, SRAM or the
AddressError, and nothing at all elsewhere; no flag and no register changes (R113 to R115; spec/20_memory.md R41). -/
def Obligations.StoreEffect : Prop :=
  ∀ (i : Instr) (s : State), i.row.mnemonic ∈ [Mnemonic.sta, .stx, .sty] → ∃ (m : MemOp) (r : Reg),
    memOf i = some m ∧ regOf i.row.mnemonic = some r ∧
    let e := ea m s
    let v := getReg r s
    let t := costing i.row.base s
    (e < 0x2000 → exec i s = .next { t with ram := s.ram.write (e % 2048) v }) ∧
    (0x2000 ≤ e → e < 0x4000 → exec i s = .next (ppuRegWrite (e % 8) v t)) ∧
    (e = 0x4014 → s.params.oamDmaEnable = false → exec i s = .next { t with ppu := { s.ppu with oamDma := v } }) ∧
    (e = 0x4014 → s.params.oamDmaEnable = true → exec i s = .next (writeOamDma v t)) ∧
    (0x4000 ≤ e → e < 0x6000 → e ≠ 0x4014 → exec i s = .next t) ∧
    (0x6000 ≤ e → e < 0x8000 → s.cart.hasSram = true →
      exec i s = .next { t with sram := s.sram.write (e - 0x6000) v }) ∧
    (0x6000 ≤ e → e < 0x8000 → s.cart.hasSram = false →
      exec i s = .next { t with
        addrError := some { addr := BitVec.ofNat 16 e, kind := .write }, addrErrorCount := s.addrErrorCount + 1 }) ∧
    (0x8000 ≤ e → exec i s = .next t)

/-- Every form that writes `EA` (STA, STX, STY; INC, DEC and the shifts on memory) leaves A, X, Y, S, pc, V, D, I and every
byte of memory but the stored one as they were, byte by byte: the stored byte is RAM's or SRAM's at `EA`; OAM's at the OAM
address or VRAM's or the palette's at the data port's address when `EA` is index 4 or 7 of the PPU window; with the transfer
enabled and `EA` 0x4014 all of OAM may change; at every other address nothing is stored (R41, R43, R45, R223). -/
def Obligations.StoringInstructionFrame : Prop :=
  ∀ (i : Instr) (s : State) (m : MemOp), i.row.mnemonic ∈ writesEa → memOf i = some m → ∃ t : State,
    exec i s = .next t ∧ t.a = s.a ∧ t.x = s.x ∧ t.y = s.y ∧ t.sp = s.sp ∧ t.pc = s.pc ∧ t.p &&& 0x7C = s.p &&& 0x7C ∧
    (i.row.mnemonic ∈ [Mnemonic.sta, .stx, .sty] → t.p = s.p) ∧ (i.row.mnemonic ∈ [Mnemonic.inc, .dec] →
      t.p &&& 0x7D = s.p &&& 0x7D) ∧
    (∀ k, ¬ (ea m s < 0x2000 ∧ k = ea m s % 2048) → t.ram.read k = s.ram.read k) ∧
    (∀ k, ¬ (0x6000 ≤ ea m s ∧ ea m s < 0x8000 ∧ k = ea m s - 0x6000) → t.sram.read k = s.sram.read k) ∧
    (let port := fun r => 0x2000 ≤ ea m s ∧ ea m s < 0x4000 ∧ ea m s % 8 = r
     let d := dataAddr i s
     (¬ port 7 → t.vram = s.vram ∧ t.pal = s.pal) ∧
     (∀ k, ¬ (port 7 ∧ 0x2000 ≤ d ∧ d < 0x3F00 ∧ k = ntIndex s.cart.mirror d) → t.vram.read k = s.vram.read k) ∧
     (∀ k, ¬ (port 7 ∧ 0x3F00 ≤ d ∧ k = palIndex d) → t.pal.read k = s.pal.read k) ∧
     (ea m s ≠ 0x4014 ∨ s.params.oamDmaEnable = false →
       (¬ port 4 → t.oam = s.oam) ∧
       ∀ k, ¬ (port 4 ∧ k = s.ppu.oamAddr.toNat) → t.oam.read k = s.oam.read k)) ∧
    t.cart = s.cart ∧ t.fb = s.fb ∧ t.frameReady = s.frameReady

/-- The transfers: TXS alone leaves N and Z (R116 to R121). -/
def Obligations.TransferResult : Prop :=
  ∀ s : State,
    exec .tax s = .next { costing 2 s with x := s.a, p := setNegZero s.a s.p } ∧
    exec .tay s = .next { costing 2 s with y := s.a, p := setNegZero s.a s.p } ∧
    exec .txa s = .next { costing 2 s with a := s.x, p := setNegZero s.x s.p } ∧
    exec .tya s = .next { costing 2 s with a := s.y, p := setNegZero s.y s.p } ∧
    exec .tsx s = .next { costing 2 s with x := s.sp, p := setNegZero s.sp s.p } ∧
    exec .txs s = .next { costing 2 s with sp := s.x }

/-- PHA and PHP store at 0x0100 + S, then decrement S in its page; PHP pushes P with bits 4 and 5 set (spec/41_stack.md R130,
R131, R134). -/
def Obligations.PushInstructions : Prop :=
  ∀ s : State,
    exec .pha s = .next { costing 3 s with ram := s.ram.write (stackIndex s.sp 0) s.a, sp := s.sp - 1 } ∧
    exec .php s = .next { costing 3 s with ram := s.ram.write (stackIndex s.sp 0) (s.p ||| 0x30), sp := s.sp - 1 }

/-- PLA and PLP increment S in its page, then load; PLP ignores bits 5 and 4 of the byte (R132, R133, R134). -/
def Obligations.PullInstructions : Prop :=
  ∀ s : State,
    let v := s.ram.read (stackIndex s.sp 1)
    exec .pla s = .next { costing 4 s with sp := s.sp + 1, a := v, p := setNegZero v s.p } ∧
    exec .plp s = .next { costing 4 s with sp := s.sp + 1, p := (v &&& 0xCF) ||| 0x20 }

/-! ## Arithmetic, logic, compare, bit test -/

/-- ADC in every form: the 9-bit sum, C its bit 8, V the signed sum out of range (spec/42_arith_logic.md R140, R142). -/
def Obligations.AdcResult : Prop :=
  ∀ (i : Instr) (s : State), i.row.mnemonic = .adc → ∃ o : Src, srcOf i = some o ∧
    exec i s = .next (addResult (operand i o s).1 (operand i o s).2)

/-- SBC in every form: A - M - (1 - C), C no borrow, V the signed difference out of range (R140, R143). -/
def Obligations.SbcResult : Prop :=
  ∀ (i : Instr) (s : State), i.row.mnemonic = .sbc → ∃ o : Src, srcOf i = some o ∧
    exec i s = .next (subResult (operand i o s).1 (operand i o s).2)

/-- Decimal mode is absent: with D flipped, ADC and SBC give the same state with D flipped (R141). -/
def Obligations.DecimalFlagIgnored : Prop :=
  ∀ (i : Instr) (s : State), i.row.mnemonic = .adc ∨ i.row.mnemonic = .sbc → ∃ t : State,
    exec i s = .next t ∧ exec i { s with p := s.p ^^^ 0x08 } = .next { t with p := t.p ^^^ 0x08 }

/-- AND, ORA, EOR in every form, bit by bit, with N and Z (R144 to R146). -/
def Obligations.LogicResult : Prop :=
  ∀ (i : Instr) (s : State), i.row.mnemonic ∈ [Mnemonic.and, .ora, .eor] → ∃ (o : Src) (r : Byte), srcOf i = some o ∧
    (∀ k, k < 8 → r.getLsbD k =
      match i.row.mnemonic with
      | .and => s.a.getLsbD k && (operand i o s).1.getLsbD k
      | .ora => s.a.getLsbD k || (operand i o s).1.getLsbD k
      | _ => s.a.getLsbD k != (operand i o s).1.getLsbD k) ∧
    exec i s = .next { (operand i o s).2 with a := r, p := setNegZero r s.p }

/-- CMP, CPX, CPY in every form: C the unsigned comparison, N and Z of the difference, V and the register untouched (R147 to
R149). -/
def Obligations.CompareResult : Prop :=
  ∀ (i : Instr) (s : State), i.row.mnemonic ∈ [Mnemonic.cmp, .cpx, .cpy] → ∃ (o : Src) (r : Reg),
    srcOf i = some o ∧ regOf i.row.mnemonic = some r ∧
    let v := (getReg r s).toNat
    let m := (operand i o s).1.toNat
    exec i s = .next { (operand i o s).2 with
      p := setNegZero (BitVec.ofInt 8 ((v : Int) - m)) (setCarry (decide (m ≤ v)) s.p) }

/-- BIT: Z from A and M, N and V copied from bits 7 and 6 of M (R150). -/
def Obligations.BitResult : Prop :=
  ∀ (i : Instr) (s : State), i.row.mnemonic = .bit → ∃ o : Src, srcOf i = some o ∧
    exec i s = .next { (operand i o s).2 with
      p := (s.p &&& 0x3D) ||| ((operand i o s).1 &&& 0xC0) ||| (if s.a &&& (operand i o s).1 = 0 then 0x02 else 0x00) }

/-! ## Increment, decrement, shift, rotate -/

/-- INC and DEC: one read and one write of `EA`, N and Z from the result (spec/43_inc_dec_shift.md R155, R158, R165). -/
def Obligations.IncDecMemory : Prop :=
  ∀ (i : Instr) (s : State), i.row.mnemonic = .inc ∨ i.row.mnemonic = .dec → ∃ m : MemOp, memOf i = some m ∧
    let v := busRead (eaAddr m s) (costing i.row.base s)
    let r : Byte := BitVec.ofNat 8 (v.1.toNat + if i.row.mnemonic = .inc then 1 else 255)
    exec i s = .next { busWrite (eaAddr m s) r v.2 with p := setNegZero r s.p }

/-- INX, INY, DEX, DEY wrap modulo 256 and set N and Z only (R156, R157, R159, R160). -/
def Obligations.IncDecRegister : Prop :=
  ∀ s : State,
    exec .inx s = .next { costing 2 s with x := BitVec.ofNat 8 (s.x.toNat + 1), p := setNegZero (s.x + 1) s.p } ∧
    exec .iny s = .next { costing 2 s with y := BitVec.ofNat 8 (s.y.toNat + 1), p := setNegZero (s.y + 1) s.p } ∧
    exec .dex s = .next { costing 2 s with x := BitVec.ofNat 8 (s.x.toNat + 255), p := setNegZero (s.x - 1) s.p } ∧
    exec .dey s = .next { costing 2 s with y := BitVec.ofNat 8 (s.y.toNat + 255), p := setNegZero (s.y - 1) s.p }

/-- ASL, LSR, ROL, ROR on the accumulator (R161 to R164, R86). -/
def Obligations.ShiftAccumulator : Prop :=
  ∀ (i : Instr) (s : State), i.row.mode = .acc → ∃ r : Byte × Bool, shifted i.row.mnemonic s.a (carry s.p) = some r ∧
    exec i s = .next { costing 2 s with a := r.1, p := setNegZero r.1 (setCarry r.2 s.p) }

/-- ASL, LSR, ROL, ROR on memory: one read and one write of `EA` (R161 to R165). -/
def Obligations.ShiftMemory : Prop :=
  ∀ (i : Instr) (s : State), i.row.mnemonic ∈ [Mnemonic.asl, .lsr, .rol, .ror] → i.row.mode ≠ .acc →
    ∃ (m : MemOp) (r : Byte × Bool), memOf i = some m ∧
    shifted i.row.mnemonic (busRead (eaAddr m s) (costing i.row.base s)).1 (carry s.p) = some r ∧
    exec i s = .next { busWrite (eaAddr m s) r.1 (busRead (eaAddr m s) (costing i.row.base s)).2 with
      p := setNegZero r.1 (setCarry r.2 s.p) }

/-! ## Control transfer -/

/-- JMP: to its operand, or through a pointer whose second byte is read in the same page (spec/44_control.md R175, R176;
spec/30_encoding.md R94). -/
def Obligations.JumpResult : Prop :=
  ∀ (s : State) (a : Addr),
    exec (.jmpAbs a) s = .next { costing 3 s with pc := a } ∧
    let l := busRead a (costing 5 s)
    let h := busRead (BitVec.ofNat 16 (a.toNat / 256 * 256 + (a.toNat + 1) % 256)) l.2
    exec (.jmpInd a) s = .next { h.2 with pc := join h.1 l.1 }

/-- JSR pushes the address of its last byte, high byte first; RTS pulls it and adds 1; neither touches a flag (R177, R178). -/
def Obligations.JsrAndRtsEffect : Prop :=
  ∀ (s : State) (a : Addr),
    exec (.jsrAbs a) s = .next { costing 6 s with
      ram := (s.ram.write (stackIndex s.sp 0) (high (s.pc - 1))).write (stackIndex s.sp 255) (low (s.pc - 1))
      sp := s.sp - 2
      pc := a } ∧
    exec .rts s = .next { costing 6 s with
      sp := s.sp + 2
      pc := join (s.ram.read (stackIndex s.sp 2)) (s.ram.read (stackIndex s.sp 1)) + 1 }

/-- RTI pulls the status, ignoring bits 5 and 4, then pc, with no + 1 (R179). -/
def Obligations.RtiEffect : Prop :=
  ∀ s : State,
    exec .rti s = .next { costing 6 s with
      p := (s.ram.read (stackIndex s.sp 1) &&& 0xCF) ||| 0x20
      sp := s.sp + 3
      pc := join (s.ram.read (stackIndex s.sp 3)) (s.ram.read (stackIndex s.sp 2)) }

/-- BRK pushes the address after the skipped byte and P with bits 4 and 5 set, sets I, and goes to the IRQ/BRK vector (R180).
`pc` on entry is already one past the opcode byte (log 7). -/
def Obligations.BrkEffect : Prop :=
  ∀ s : State,
    exec .brk s = .next { costing 7 s with
      ram := ((s.ram.write (stackIndex s.sp 0) (high (s.pc + 1))).write (stackIndex s.sp 255) (low (s.pc + 1))).write
        (stackIndex s.sp 254) (s.p ||| 0x30)
      sp := s.sp - 3
      p := s.p ||| 0x04
      pc := join (readPrg 0xFFFF s.cart) (readPrg 0xFFFE s.cart) }

/-- The eight branches: condition, target and cost; nothing else changes (R181 to R189, spec/30_encoding.md R97). -/
def Obligations.BranchResult : Prop :=
  ∀ (i : Instr) (s : State), i.row.mode = .rel → ∃ (c : Bool) (off : Byte),
    branchTaken i.row.mnemonic s.p = some c ∧ i.operands = [off] ∧
    exec i s = .next { s with
      pc := if c then target off s.pc else s.pc
      pending := if c then (if (target off s.pc).toNat / 256 = s.pc.toNat / 256 then 2 else 3) else 1 }

/-- The flag instructions change their one flag and NOP nothing (spec/45_flags_nop.md R200 to R207). -/
def Obligations.FlagInstructionResult : Prop :=
  ∀ (i : Instr) (s : State) (p : Byte), flagEffect i.row.mnemonic s.p = some p →
    exec i s = .next { costing 2 s with p := p }

/-- A subroutine call returns: JSR, then RTS, restores pc to the instruction after the JSR and S, and changes no register and no
byte outside the two stack bytes (R177, R178, R190). -/
def Obligations.JsrThenRtsReturns : Prop :=
  ∀ (s : State) (a : Addr), ∃ t u : State,
    exec (.jsrAbs a) s = .next t ∧ exec .rts t = .next u ∧
    u = { s with ram := u.ram, pending := u.pending } ∧
    ∀ k, k ≠ stackIndex s.sp 0 → k ≠ stackIndex s.sp 255 → u.ram.read k = s.ram.read k

/-- BRK, then RTI, resumes two past the BRK opcode with the flags of the interrupted code and S restored (R179, R180). -/
def Obligations.BrkThenRtiReturns : Prop :=
  ∀ s : State, s.p &&& 0x30 = 0x20 → ∃ t u : State,
    exec .brk s = .next t ∧ exec .rti t = .next u ∧
    u = { s with pc := s.pc + 1, ram := u.ram, pending := u.pending }

/-! ## CPU bus -/

/-- What a CPU bus read gives and changes: the RAM byte, the PPU window's register, the byte of present SRAM (R40, R42, R43, R48;
the other windows are in StubOpenBusAndPrgWindows). The reads with a side effect are those of R56: a status read clears the
vblank flag and the toggle, a data read moves the buffer and the address, a read of absent SRAM records an AddressError and
gives 0x00; every other read changes nothing. -/
def Obligations.BusReadSideEffects : Prop :=
  ∀ (a : Addr) (s : State),
    (a.toNat < 0x2000 → busRead a s = (s.ram.read (a.toNat % 2048), s)) ∧
    (0x2000 ≤ a.toNat → a.toNat < 0x4000 → busRead a s = ppuRegRead (a.toNat % 8) s) ∧
    (0x6000 ≤ a.toNat → a.toNat < 0x8000 → s.cart.hasSram = true → busRead a s = (s.sram.read (a.toNat - 0x6000), s)) ∧
    (a &&& 0xE007 = 0x2002 → (busRead a s).2 = { s with ppu := { s.ppu with vblank := false, w := false } }) ∧
    (a &&& 0xE007 = 0x2007 → (busRead a s).2 =
      { s with ppu := { s.ppu with readBuf := (busRead a s).2.ppu.readBuf, vaddr := nextVaddr s.ppu } }) ∧
    (0x6000 ≤ a.toNat → a.toNat < 0x8000 → s.cart.hasSram = false →
      busRead a s = (0x00, { s with addrError := some { addr := a, kind := .read }, addrErrorCount := s.addrErrorCount + 1 })) ∧
    (a &&& 0xE007 ≠ 0x2002 → a &&& 0xE007 ≠ 0x2007 → ¬ (0x6000 ≤ a.toNat ∧ a.toNat < 0x8000 ∧ s.cart.hasSram = false) →
      (busRead a s).2 = s)

/-- Each RAM byte appears at four addresses: a byte written at one is read at all of them, and every other RAM byte reads as
before (spec/20_memory.md R42). -/
def Obligations.RamReadAfterWrite : Prop :=
  ∀ (a b : Addr) (v : Byte) (s : State), a.toNat < 0x2000 → b.toNat < 0x2000 →
    busRead b (busWrite a v s) =
      (if a.toNat % 0x800 = b.toNat % 0x800 then v else (busRead b s).1, { s with ram := (busWrite a v s).ram })

/-- The stub, open-bus and PRG windows: the values read (0x00, the controller constants, the image byte, mirrored with one
unit), and writes that change nothing (R44, R46, R47, R49, R51). -/
def Obligations.StubOpenBusAndPrgWindows : Prop :=
  ∀ (a : Addr) (v : Byte) (s : State),
    (0x4000 ≤ a.toNat → a.toNat < 0x6000 → busRead a s =
      (if a.toNat = 0x4016 then s.params.ctrl1Const else if a.toNat = 0x4017 then s.params.ctrl2Const else 0x00, s)) ∧
    (0x4000 ≤ a.toNat → a.toNat < 0x6000 → a.toNat ≠ 0x4014 → busWrite a v s = s) ∧
    (0x8000 ≤ a.toNat → busWrite a v s = s) ∧
    (0x8000 ≤ a.toNat → s.cart.prgUnits = 1 → busRead a s = (s.cart.prg.read (a.toNat % 16384), s)) ∧
    (0x8000 ≤ a.toNat → s.cart.prgUnits = 2 → busRead a s = (s.cart.prg.read (a.toNat - 0x8000), s))

/-- SRAM present: a byte written in 0x6000 to 0x7FFF is read back there and nowhere else changes. SRAM absent: the write is
dropped and recorded (R48, R50; spec/60_exceptions.md R272). -/
def Obligations.SramWindow : Prop :=
  ∀ (a b : Addr) (v : Byte) (s : State), 0x6000 ≤ a.toNat → a.toNat < 0x8000 →
    (s.cart.hasSram = true → 0x6000 ≤ b.toNat → b.toNat < 0x8000 →
      busRead b (busWrite a v s) =
        (if a = b then v else (busRead b s).1, { s with sram := (busWrite a v s).sram })) ∧
    (s.cart.hasSram = false → busWrite a v s =
      { s with addrError := some { addr := a, kind := .write }, addrErrorCount := s.addrErrorCount + 1 })

/-- A write to 0x4014: the latch alone with the transfer off. With it on, the 256 reads of the page through the CPU bus, in order
and with their side effects, each copied to OAM from the OAM address on, wrapping, at 513 cycles plus one on an odd cycle
count (R45). From a page whose reads have no side effect the bytes are those the bus gives before the transfer (for a RAM
page RAM's) and OAM alone changes; from absent SRAM they are zeros, and 256 AddressErrors are recorded (R50). -/
def Obligations.OamDmaTransfer : Prop :=
  ∀ (b : Byte) (s : State),
    let t := busWrite 0x4014 b s
    let copied := fun k => t.oam.read ((s.ppu.oamAddr.toNat + k) % 256)
    let latched := { s with ppu := { s.ppu with oamDma := b } }
    let cost := s.pending + 513 + s.cycles.toNat % 2
    (s.params.oamDmaEnable = false → t = latched) ∧
    (s.params.oamDmaEnable = true → t = { dmaCopies b 256 latched with pending := cost }) ∧
    (s.params.oamDmaEnable = true → quietPage b s →
      t = { latched with oam := t.oam, pending := cost } ∧
      ∀ k, k < 256 → copied k = (busRead (join b (BitVec.ofNat 8 k)) s).1) ∧
    (s.params.oamDmaEnable = true → b.toNat < 0x20 → ∀ k, k < 256 → copied k = s.ram.read ((b.toNat * 256 + k) % 2048)) ∧
    (s.params.oamDmaEnable = true → 0x60 ≤ b.toNat → b.toNat < 0x80 → s.cart.hasSram = false →
      t = { latched with
        oam := t.oam, pending := cost
        addrError := some { addr := join b 0xFF, kind := .read }, addrErrorCount := s.addrErrorCount + 256 } ∧
      ∀ k, k < 256 → copied k = 0x00)

/-! ## PPU -/

/-- The status port returns the vblank flag in bit 7 and zeros below; the write-only ports read 0x00 and change nothing; a status
write is discarded (spec/50_ppu.md R226, R227, R235). -/
def Obligations.StatusAndWriteOnlyPorts : Prop :=
  ∀ (s : State) (b : Byte),
    ppuRegRead 2 s = (BitVec.ofNat 8 (if s.ppu.vblank then 128 else 0),
      { s with ppu := { s.ppu with vblank := false, w := false } }) ∧
    (∀ r, r ∈ [0, 1, 3, 5, 6] → ppuRegRead r s = (0x00, s)) ∧
    ppuRegWrite 2 b s = s

/-- Two scroll writes set both latches with the offsets the control register then selects, and leave the toggle as it was; two
address writes set the 14-bit address; one shared toggle (R231, R232, R236). -/
def Obligations.ScrollAndAddressPairs : Prop :=
  ∀ (s : State) (b1 b2 : Byte),
    (s.ppu.w = false → ppuRegWrite 5 b2 (ppuRegWrite 5 b1 s) = { s with ppu := { s.ppu with
      xScroll := b1.toNat + 256 * (s.ppu.ctrl.toNat % 2)
      yScroll := (b2.toNat + 240 * (s.ppu.ctrl.toNat / 2 % 2)) % 480 } }) ∧
    (s.ppu.w = false → ppuRegWrite 6 b2 (ppuRegWrite 6 b1 s) = { s with ppu := { s.ppu with
      vaddr := BitVec.ofNat 14 (b1.toNat % 64 * 256 + b2.toNat) } }) ∧
    (s.ppu.w = false → ppuRegWrite 6 b2 (ppuRegWrite 5 b1 s) = { s with ppu := { s.ppu with
      xScroll := b1.toNat + 256 * (s.ppu.ctrl.toNat % 2)
      vaddr := BitVec.ofNat 14 (s.ppu.vaddr.toNat / 256 * 256 + b2.toNat) } }) ∧
    (ppuRegWrite 5 b1 s).ppu.w = !s.ppu.w ∧ (ppuRegWrite 6 b1 s).ppu.w = !s.ppu.w

/-- The data port: below 0x3F00 a read gives the buffer and refills it with the byte at the address; from 0x3F00 on it gives the
palette byte at once and buffers the nametable byte under it; a write reaches nametable and palette, never CHR; every
access advances the address by 1 or 32 modulo 0x4000 (R233, R234). -/
def Obligations.DataPort : Prop :=
  ∀ (s : State) (b : Byte),
    let a := s.ppu.vaddr.toNat
    let next : PAddr := BitVec.ofNat 14 (a + if s.ppu.ctrl.toNat / 4 % 2 = 1 then 32 else 1)
    let nt := fun k => s.vram.read (ntIndex s.cart.mirror k)
    (a < 0x2000 → ppuRegRead 7 s =
      (s.ppu.readBuf, { s with ppu := { s.ppu with readBuf := s.cart.chr.read a, vaddr := next } })) ∧
    (0x2000 ≤ a → a < 0x3F00 → ppuRegRead 7 s =
      (s.ppu.readBuf, { s with ppu := { s.ppu with readBuf := nt a, vaddr := next } })) ∧
    (0x3F00 ≤ a → ppuRegRead 7 s =
      (s.pal.read (palIndex a), { s with ppu := { s.ppu with readBuf := nt (a - 0x1000), vaddr := next } })) ∧
    (a < 0x2000 → ppuRegWrite 7 b s = { s with ppu := { s.ppu with vaddr := next } }) ∧
    (0x2000 ≤ a → a < 0x3F00 → ppuRegWrite 7 b s =
      { s with vram := s.vram.write (ntIndex s.cart.mirror a) b, ppu := { s.ppu with vaddr := next } }) ∧
    (0x3F00 ≤ a → ppuRegWrite 7 b s =
      { s with pal := s.pal.write (palIndex a) b, ppu := { s.ppu with vaddr := next } })

/-- The control, mask and OAM ports: the byte is latched; OAM data writes store and advance the OAM address, OAM data reads do
not (R224, R225, R228 to R230). -/
def Obligations.ControlMaskAndOamPorts : Prop :=
  ∀ (s : State) (b : Byte),
    ppuRegWrite 0 b s = { s with ppu := { s.ppu with ctrl := b } } ∧
    ppuRegWrite 1 b s = { s with ppu := { s.ppu with mask := b } } ∧
    ppuRegWrite 3 b s = { s with ppu := { s.ppu with oamAddr := b } } ∧
    ppuRegRead 4 s = (s.oam.read s.ppu.oamAddr.toNat, s) ∧
    ppuRegWrite 4 b s = { s with
      oam := s.oam.write s.ppu.oamAddr.toNat b
      ppu := { s.ppu with oamAddr := BitVec.ofNat 8 (s.ppu.oamAddr.toNat + 1) } }

/-- Nametable and palette addresses: logical tables 0 to 3 share physical halves 0, 0, 1, 1 under Horizontal and 0, 1, 0, 1
otherwise; 0x3000 to 0x3EFF folds onto 0x2000 to 0x2EFF; indexes stay inside the memories; palette entries 0x10, 0x14, 0x18
and 0x1C are entries 0x00, 0x04, 0x08 and 0x0C, so that only 28 cells are reached (spec/20_memory.md R62, R63). -/
def Obligations.NametableAndPaletteMirrors : Prop :=
  (∀ t c : Nat, t < 4 → c < 1024 →
    ntIndex .horizontal (0x2000 + 1024 * t + c) = 1024 * (t / 2) + c ∧
    ntIndex .vertical (0x2000 + 1024 * t + c) = 1024 * (t % 2) + c ∧
    ntIndex .none (0x2000 + 1024 * t + c) = 1024 * (t % 2) + c) ∧
  (∀ (m : Mirror) (a : Nat), 0x3000 ≤ a → a < 0x3F00 → ntIndex m a = ntIndex m (a - 0x1000)) ∧
  (∀ (m : Mirror) (a : Nat), ntIndex m a < 2048) ∧
  (∀ a : Nat, palIndex a < 32 ∧ palIndex a ∉ [0x10, 0x14, 0x18, 0x1C] ∧ palIndex (a + 32) = palIndex a ∧
    (a % 4 ≠ 0 → palIndex a = a % 32) ∧ (a % 4 = 0 → palIndex a = a % 16))

/-- One PPU cycle of each stage advances the position as R241 to R243 say: the next cycle, or the next scanline, or the next
stage, with `frame_ready` set as scanline 239 completes and the parity toggled on the way to PreRendering (R244, R252). -/
def Obligations.PpuPositionAdvance : Prop :=
  ∀ s : State, timingOk s.ppu = true →
    let u := (ppuStep s).2.ppu
    let k := if s.ppu.stage = .preRendering then
        (if s.ppu.parity && s.ppu.mask.getLsbD 3 && s.ppu.mask.getLsbD 4 then 338 else 339) else 340
    (s.ppu.cycle < k → u = { s.ppu with cycle := s.ppu.cycle + 1, vblank := u.vblank }) ∧
    (k ≤ s.ppu.cycle → u = { s.ppu with
      cycle := 0
      scanline := (s.ppu.scanline + 1) % 262
      stage := if s.ppu.scanline = 239 then .postRendering else if s.ppu.scanline = 260 then .preRendering
        else if s.ppu.scanline = 261 then .rendering else s.ppu.stage
      parity := if s.ppu.scanline = 260 then !s.ppu.parity else s.ppu.parity
      vblank := u.vblank }) ∧
    u.vblank = (if s.ppu.scanline = 241 ∧ s.ppu.cycle = 1 then true
      else if s.ppu.scanline = 261 ∧ s.ppu.cycle = 1 then false else s.ppu.vblank) ∧
    (ppuStep s).2.frameReady = (s.frameReady || (s.ppu.scanline == 239 && s.ppu.cycle == 340))

/-- A frame: from the first cycle of PreRendering, 340 + 81840 + 7161 = 89341 PPU steps (89340 when parity and both rendering bits
give the short PreRendering) lead to the first cycle of the next PreRendering with the parity toggled, and exactly one of
them reports the vblank edge (R241, R246, R247). -/
def Obligations.FrameLengthAndOneEdge : Prop :=
  ∀ s : State, s.ppu.stage = .preRendering → s.ppu.scanline = 261 → s.ppu.cycle = 0 →
    let n := 89341 - (if s.ppu.parity && s.ppu.mask.getLsbD 3 && s.ppu.mask.getLsbD 4 then 1 else 0)
    (ppuSteps n s).ppu.stage = .preRendering ∧ (ppuSteps n s).ppu.scanline = 261 ∧ (ppuSteps n s).ppu.cycle = 0 ∧
    (ppuSteps n s).ppu.parity = !s.ppu.parity ∧ edgesIn n s = 1

/-- A pixel is drawn in each Rendering step of cycles 1 to 256 and in no other PPU step: the byte of `pixelByte` for column
`cycle - 1` and the scanline (R242, R250; PixelFromTables says which byte that is), a palette byte of a cell 0 to 15 of the
background region, is stored at `y * 256 + x`, and every other cell of the frame buffer is unchanged (R252). -/
def Obligations.PixelWrites : Prop :=
  ∀ s : State,
    let px := s.ppu.cycle - 1
    let sy := s.ppu.scanline
    (s.ppu.stage = .rendering → 1 ≤ s.ppu.cycle → s.ppu.cycle ≤ 256 →
      (ppuStep s).2.fb.read (sy * 256 + px) = pixelByte px sy s ∧
      (∃ idx : Nat, idx < 16 ∧ pixelByte px sy s = s.pal.read (palIndex idx)) ∧
      ∀ k, k ≠ sy * 256 + px → (ppuStep s).2.fb.read k = s.fb.read k) ∧
    (¬ (s.ppu.stage = .rendering ∧ 1 ≤ s.ppu.cycle ∧ s.ppu.cycle ≤ 256) → (ppuStep s).2.fb = s.fb)

/-- The pixel's cell: the tile byte, the attribute quadrant and the two planes of the pattern, found from the scrolled position in
the 512 by 480 plane (R250, R251); `nt`, `row`, `col`, `fx`, `fy` are that position, and nothing else of the machine (the mask,
OAM, the CPU) enters (R253, R254). -/
def Obligations.PixelFromTables : Prop :=
  ∀ (s : State) (px sy nt row col fx fy : Nat), nt < 4 → row < 30 → col < 32 → fx < 8 → fy < 8 →
    (px + s.ppu.xScroll) % 512 = 256 * (nt % 2) + 8 * col + fx →
    (sy + s.ppu.yScroll) % 480 = 240 * (nt / 2) + 8 * row + fy →
    let nametable := fun k => s.vram.read (ntIndex s.cart.mirror (0x2000 + 0x400 * nt + k))
    let tile := (nametable (32 * row + col)).toNat
    let attr := (nametable (0x3C0 + 8 * (row / 4) + col / 4)).toNat
    let sel := attr / 4 ^ (2 * (row / 2 % 2) + col / 2 % 2) % 4
    let pa := (if s.ppu.ctrl.toNat / 16 % 2 = 1 then 0x1000 else 0) + 16 * tile + fy
    let plane := fun q => (s.cart.chr.read (pa + 8 * q)).toNat / 2 ^ (7 - fx) % 2
    pixelByte px sy s = s.pal.read (palIndex (4 * sel + 2 * plane 1 + plane 0))
end

