-- ==== Sys2Proof/Laws/Memory.lean ====
section
/-! SUPPORT. The laws of sparse memories: a read after a write, and that writing keeps the canonical form and the size. -/

namespace Sys2Proof

@[simp] theorem Memory.read_nil (i : Nat) : Memory.read [] i = 0 := rfl

theorem Memory.read_erase_same (m : Memory) (i : Nat) : (m.erase i).read i = 0 := by
  induction m with
  | nil => rfl
  | cons c m ih =>
    obtain ⟨k, b⟩ := c
    by_cases h : k = i <;> simp [Memory.erase, Memory.read, h, ih]

theorem Memory.read_erase_other (m : Memory) {i j : Nat} (h : j ≠ i) : (m.erase i).read j = m.read j := by
  induction m with
  | nil => rfl
  | cons c m ih =>
    obtain ⟨k, b⟩ := c
    by_cases hk : k = i
    · have : k ≠ j := by omega
      simp [Memory.erase, Memory.read, hk, ih, h.symm]
    · by_cases hj : k = j
      · subst hj; simp [Memory.erase, Memory.read, hk]
      · simp [Memory.erase, Memory.read, hk, hj, ih]

theorem Memory.read_insert_other (m : Memory) {i j : Nat} (v : Byte) (h : j ≠ i) :
    (m.insert i v).read j = m.read j := by
  induction m with
  | nil => simp [Memory.insert, Memory.read, h.symm]
  | cons c m ih =>
    obtain ⟨k, b⟩ := c
    by_cases hk : i < k
    · simp [Memory.insert, Memory.read, hk, h.symm]
    · by_cases hj : k = j
      · subst hj; simp [Memory.insert, Memory.read, hk]
      · simp [Memory.insert, Memory.read, hk, hj, ih]

theorem Memory.read_insert_erased (m : Memory) (i : Nat) (v : Byte) : ((m.erase i).insert i v).read i = v := by
  induction m with
  | nil => simp [Memory.erase, Memory.insert, Memory.read]
  | cons c m ih =>
    obtain ⟨k, b⟩ := c
    by_cases hk : k = i
    · simpa [Memory.erase, hk] using ih
    · by_cases hi : i < k <;> simp [Memory.erase, Memory.insert, Memory.read, hk, hi, ih]

/-- A read after a write to the same index gives the byte written. -/
@[simp] theorem Memory.read_write_same (m : Memory) (i : Nat) (v : Byte) : (m.write i v).read i = v := by
  by_cases h : v = Memory.unlisted
  · simpa [Memory.write, h, Memory.unlisted] using Memory.read_erase_same m i
  · simpa [Memory.write, h] using Memory.read_insert_erased m i v

/-- A write leaves every other index alone. -/
theorem Memory.read_write_other (m : Memory) {i j : Nat} (v : Byte) (h : j ≠ i) : (m.write i v).read j = m.read j := by
  by_cases hv : v = Memory.unlisted
  · simpa [Memory.write, hv] using Memory.read_erase_other m h
  · simpa [Memory.write, hv, Memory.read_erase_other m h] using Memory.read_insert_other (m.erase i) v h

theorem Memory.read_write (m : Memory) (i j : Nat) (v : Byte) :
    (m.write i v).read j = if j = i then v else m.read j := by
  by_cases h : j = i
  · subst h; simp
  · simp [h, Memory.read_write_other m v h]

/-! ## The canonical form -/

theorem Memory.wfFrom_mono {m : Memory} {l l' : Nat} (h : m.wfFrom l = true) (hl : l' ≤ l) : m.wfFrom l' = true := by
  cases m with
  | nil => rfl
  | cons c m =>
    obtain ⟨k, b⟩ := c
    simp only [Memory.wfFrom, Bool.and_eq_true, decide_eq_true_eq] at h ⊢
    exact ⟨⟨by omega, h.1.2⟩, h.2⟩

theorem Memory.wfFrom_erase {m : Memory} {l : Nat} (i : Nat) (h : Memory.wfFrom l m = true) :
    Memory.wfFrom l (m.erase i) = true := by
  induction m generalizing l with
  | nil => rfl
  | cons c m ih =>
    obtain ⟨k, b⟩ := c
    simp only [Memory.wfFrom, Bool.and_eq_true, decide_eq_true_eq] at h
    by_cases hk : k = i
    · simpa [Memory.erase, hk] using Memory.wfFrom_mono (ih h.2) (by omega)
    · simpa [Memory.erase, hk, Memory.wfFrom, h.1.1, h.1.2] using ih h.2

theorem Memory.wfFrom_insert {m : Memory} {l i : Nat} {v : Byte} (h : Memory.wfFrom l m = true) (hl : l ≤ i)
    (hv : v ≠ Memory.unlisted) : Memory.wfFrom l ((m.erase i).insert i v) = true := by
  induction m generalizing l with
  | nil => simp [Memory.erase, Memory.insert, Memory.wfFrom, hl, hv]
  | cons c m ih =>
    obtain ⟨k, b⟩ := c
    simp only [Memory.wfFrom, Bool.and_eq_true, decide_eq_true_eq] at h
    by_cases hk : k = i
    · simp only [Memory.erase, hk, if_true]
      exact ih (Memory.wfFrom_mono h.2 (by omega)) hl
    · by_cases hi : i < k
      · simp only [Memory.erase, hk, if_false, Memory.insert, hi, if_true, Memory.wfFrom, Bool.and_eq_true,
          decide_eq_true_eq]
        exact ⟨⟨hl, hv⟩, ⟨by omega, h.1.2⟩, Memory.wfFrom_erase i h.2⟩
      · simp only [Memory.erase, hk, if_false, Memory.insert, hi, Memory.wfFrom, Bool.and_eq_true, decide_eq_true_eq]
        exact ⟨h.1, ih h.2 (by omega)⟩

/-- A write keeps the canonical form. -/
theorem Memory.wf_write {m : Memory} (i : Nat) (v : Byte) (h : m.wf = true) : (m.write i v).wf = true := by
  by_cases hv : v = Memory.unlisted
  · simpa [Memory.write, hv, Memory.wf] using Memory.wfFrom_erase i h
  · simpa [Memory.write, hv, Memory.wf] using Memory.wfFrom_insert h (Nat.zero_le i) hv

theorem Memory.within_erase {m : Memory} {n : Nat} (i : Nat) (h : m.within n = true) : (m.erase i).within n = true := by
  induction m with
  | nil => rfl
  | cons c m ih =>
    obtain ⟨k, b⟩ := c
    simp only [Memory.within, List.all_cons, Bool.and_eq_true] at h
    by_cases hk : k = i
    · simpa [Memory.erase, hk] using ih h.2
    · simpa [Memory.erase, hk, Memory.within, h.1] using ih h.2

theorem Memory.within_insert {m : Memory} {n i : Nat} (v : Byte) (hi : i < n) (h : m.within n = true) :
    (m.insert i v).within n = true := by
  induction m with
  | nil => simp [Memory.insert, Memory.within, hi]
  | cons c m ih =>
    obtain ⟨k, b⟩ := c
    simp only [Memory.within, List.all_cons, Bool.and_eq_true] at h
    by_cases hk : i < k
    · simpa [Memory.insert, hk, Memory.within, hi, h.1] using h.2
    · simpa [Memory.insert, hk, Memory.within, h.1] using ih h.2

/-- A write inside the size keeps the memory inside it. -/
theorem Memory.within_write {m : Memory} {n i : Nat} (v : Byte) (hi : i < n) (h : m.within n = true) :
    (m.write i v).within n = true := by
  by_cases hv : v = Memory.unlisted
  · simpa [Memory.write, hv] using Memory.within_erase i h
  · simpa [Memory.write, hv] using Memory.within_insert v hi (Memory.within_erase i h)

/-! ## Memories of byte lists -/

theorem Memory.wfFrom_ofBytesFrom (i : Nat) (bs : List Byte) : Memory.wfFrom i (Memory.ofBytesFrom i bs) = true := by
  induction bs generalizing i with
  | nil => rfl
  | cons b bs ih =>
    by_cases h : b = Memory.unlisted
    · simpa [Memory.ofBytesFrom, h] using Memory.wfFrom_mono (ih (i + 1)) (by omega)
    · simpa [Memory.ofBytesFrom, h, Memory.wfFrom] using ih (i + 1)

theorem Memory.wf_ofBytes (bs : List Byte) : (Memory.ofBytes bs).wf = true := Memory.wfFrom_ofBytesFrom 0 bs

theorem Memory.read_of_wfFrom {m : Memory} {l i : Nat} (h : Memory.wfFrom l m = true) (hi : i < l) : m.read i = 0 := by
  induction m generalizing l with
  | nil => rfl
  | cons c m ih =>
    obtain ⟨k, b⟩ := c
    simp only [Memory.wfFrom, Bool.and_eq_true, decide_eq_true_eq] at h
    have hk : k ≠ i := by omega
    simpa [Memory.read, hk] using ih h.2 (by omega)

theorem Memory.read_ofBytesFrom (i k : Nat) (bs : List Byte) :
    (Memory.ofBytesFrom i bs).read (i + k) = bs.getD k 0 := by
  induction bs generalizing i k with
  | nil => simp [Memory.ofBytesFrom]
  | cons b bs ih =>
    have ih' : ∀ j, (Memory.ofBytesFrom (i + 1) bs).read (i + (j + 1)) = bs.getD j 0 := fun j => by
      rw [show i + (j + 1) = i + 1 + j from by omega]; exact ih (i + 1) j
    by_cases h : b = Memory.unlisted
    · cases k with
      | zero =>
        have := Memory.read_of_wfFrom (i := i) (Memory.wfFrom_ofBytesFrom (i + 1) bs) (by omega)
        simpa [Memory.ofBytesFrom, h, Memory.unlisted] using this
      | succ k => simpa [Memory.ofBytesFrom, h] using ih' k
    · cases k with
      | zero => simp [Memory.ofBytesFrom, h, Memory.read]
      | succ k => simpa [Memory.ofBytesFrom, h, Memory.read] using ih' k

/-- The memory of a byte list reads as the list, and as 0 beyond its end. -/
theorem Memory.read_ofBytes (bs : List Byte) (k : Nat) : (Memory.ofBytes bs).read k = bs.getD k 0 := by
  simpa [Memory.ofBytes] using Memory.read_ofBytesFrom 0 k bs

theorem Memory.within_ofBytesFrom (bs : List Byte) {i n : Nat} (h : i + bs.length ≤ n) :
    (Memory.ofBytesFrom i bs).within n = true := by
  induction bs generalizing i with
  | nil => rfl
  | cons b bs ih =>
    simp only [List.length_cons] at h
    by_cases hb : b = Memory.unlisted
    · simpa [Memory.ofBytesFrom, hb] using ih (by omega)
    · have hi : i < n := by omega
      simpa [Memory.ofBytesFrom, hb, Memory.within, hi] using ih (i := i + 1) (by omega)

theorem Memory.within_ofBytes (bs : List Byte) {n : Nat} (h : bs.length ≤ n) : (Memory.ofBytes bs).within n = true :=
  Memory.within_ofBytesFrom bs (by omega)

end Sys2Proof
end

