-- ==== Sys2Proof/Laws/State.lean ====
section
/-! SUPPORT. What each field update of State leaves in each field: one lemma per field per update, true by rfl, so that
no later proof unfolds a record update. -/

namespace Sys2Proof.Machine

variable (s : State)

@[simp] theorem State.setA_a (v : Byte) : (s.setA v).a = v := rfl
@[simp] theorem State.setA_x (v : Byte) : (s.setA v).x = s.x := rfl
@[simp] theorem State.setA_y (v : Byte) : (s.setA v).y = s.y := rfl
@[simp] theorem State.setA_sp (v : Byte) : (s.setA v).sp = s.sp := rfl
@[simp] theorem State.setA_p (v : Byte) : (s.setA v).p = s.p := rfl
@[simp] theorem State.setA_pc (v : Byte) : (s.setA v).pc = s.pc := rfl
@[simp] theorem State.setA_cycles (v : Byte) : (s.setA v).cycles = s.cycles := rfl
@[simp] theorem State.setA_pending (v : Byte) : (s.setA v).pending = s.pending := rfl
@[simp] theorem State.setA_halted (v : Byte) : (s.setA v).halted = s.halted := rfl
@[simp] theorem State.setA_addrError (v : Byte) : (s.setA v).addrError = s.addrError := rfl
@[simp] theorem State.setA_addrErrorCount (v : Byte) : (s.setA v).addrErrorCount = s.addrErrorCount := rfl
@[simp] theorem State.setA_nmiLatch (v : Byte) : (s.setA v).nmiLatch = s.nmiLatch := rfl
@[simp] theorem State.setA_ram (v : Byte) : (s.setA v).ram = s.ram := rfl
@[simp] theorem State.setA_ppu (v : Byte) : (s.setA v).ppu = s.ppu := rfl
@[simp] theorem State.setA_vram (v : Byte) : (s.setA v).vram = s.vram := rfl
@[simp] theorem State.setA_oam (v : Byte) : (s.setA v).oam = s.oam := rfl
@[simp] theorem State.setA_pal (v : Byte) : (s.setA v).pal = s.pal := rfl
@[simp] theorem State.setA_fb (v : Byte) : (s.setA v).fb = s.fb := rfl
@[simp] theorem State.setA_frameReady (v : Byte) : (s.setA v).frameReady = s.frameReady := rfl
@[simp] theorem State.setA_sram (v : Byte) : (s.setA v).sram = s.sram := rfl
@[simp] theorem State.setA_master (v : Byte) : (s.setA v).master = s.master := rfl
@[simp] theorem State.setA_cart (v : Byte) : (s.setA v).cart = s.cart := rfl
@[simp] theorem State.setA_params (v : Byte) : (s.setA v).params = s.params := rfl

@[simp] theorem State.setX_a (v : Byte) : (s.setX v).a = s.a := rfl
@[simp] theorem State.setX_x (v : Byte) : (s.setX v).x = v := rfl
@[simp] theorem State.setX_y (v : Byte) : (s.setX v).y = s.y := rfl
@[simp] theorem State.setX_sp (v : Byte) : (s.setX v).sp = s.sp := rfl
@[simp] theorem State.setX_p (v : Byte) : (s.setX v).p = s.p := rfl
@[simp] theorem State.setX_pc (v : Byte) : (s.setX v).pc = s.pc := rfl
@[simp] theorem State.setX_cycles (v : Byte) : (s.setX v).cycles = s.cycles := rfl
@[simp] theorem State.setX_pending (v : Byte) : (s.setX v).pending = s.pending := rfl
@[simp] theorem State.setX_halted (v : Byte) : (s.setX v).halted = s.halted := rfl
@[simp] theorem State.setX_addrError (v : Byte) : (s.setX v).addrError = s.addrError := rfl
@[simp] theorem State.setX_addrErrorCount (v : Byte) : (s.setX v).addrErrorCount = s.addrErrorCount := rfl
@[simp] theorem State.setX_nmiLatch (v : Byte) : (s.setX v).nmiLatch = s.nmiLatch := rfl
@[simp] theorem State.setX_ram (v : Byte) : (s.setX v).ram = s.ram := rfl
@[simp] theorem State.setX_ppu (v : Byte) : (s.setX v).ppu = s.ppu := rfl
@[simp] theorem State.setX_vram (v : Byte) : (s.setX v).vram = s.vram := rfl
@[simp] theorem State.setX_oam (v : Byte) : (s.setX v).oam = s.oam := rfl
@[simp] theorem State.setX_pal (v : Byte) : (s.setX v).pal = s.pal := rfl
@[simp] theorem State.setX_fb (v : Byte) : (s.setX v).fb = s.fb := rfl
@[simp] theorem State.setX_frameReady (v : Byte) : (s.setX v).frameReady = s.frameReady := rfl
@[simp] theorem State.setX_sram (v : Byte) : (s.setX v).sram = s.sram := rfl
@[simp] theorem State.setX_master (v : Byte) : (s.setX v).master = s.master := rfl
@[simp] theorem State.setX_cart (v : Byte) : (s.setX v).cart = s.cart := rfl
@[simp] theorem State.setX_params (v : Byte) : (s.setX v).params = s.params := rfl

@[simp] theorem State.setY_a (v : Byte) : (s.setY v).a = s.a := rfl
@[simp] theorem State.setY_x (v : Byte) : (s.setY v).x = s.x := rfl
@[simp] theorem State.setY_y (v : Byte) : (s.setY v).y = v := rfl
@[simp] theorem State.setY_sp (v : Byte) : (s.setY v).sp = s.sp := rfl
@[simp] theorem State.setY_p (v : Byte) : (s.setY v).p = s.p := rfl
@[simp] theorem State.setY_pc (v : Byte) : (s.setY v).pc = s.pc := rfl
@[simp] theorem State.setY_cycles (v : Byte) : (s.setY v).cycles = s.cycles := rfl
@[simp] theorem State.setY_pending (v : Byte) : (s.setY v).pending = s.pending := rfl
@[simp] theorem State.setY_halted (v : Byte) : (s.setY v).halted = s.halted := rfl
@[simp] theorem State.setY_addrError (v : Byte) : (s.setY v).addrError = s.addrError := rfl
@[simp] theorem State.setY_addrErrorCount (v : Byte) : (s.setY v).addrErrorCount = s.addrErrorCount := rfl
@[simp] theorem State.setY_nmiLatch (v : Byte) : (s.setY v).nmiLatch = s.nmiLatch := rfl
@[simp] theorem State.setY_ram (v : Byte) : (s.setY v).ram = s.ram := rfl
@[simp] theorem State.setY_ppu (v : Byte) : (s.setY v).ppu = s.ppu := rfl
@[simp] theorem State.setY_vram (v : Byte) : (s.setY v).vram = s.vram := rfl
@[simp] theorem State.setY_oam (v : Byte) : (s.setY v).oam = s.oam := rfl
@[simp] theorem State.setY_pal (v : Byte) : (s.setY v).pal = s.pal := rfl
@[simp] theorem State.setY_fb (v : Byte) : (s.setY v).fb = s.fb := rfl
@[simp] theorem State.setY_frameReady (v : Byte) : (s.setY v).frameReady = s.frameReady := rfl
@[simp] theorem State.setY_sram (v : Byte) : (s.setY v).sram = s.sram := rfl
@[simp] theorem State.setY_master (v : Byte) : (s.setY v).master = s.master := rfl
@[simp] theorem State.setY_cart (v : Byte) : (s.setY v).cart = s.cart := rfl
@[simp] theorem State.setY_params (v : Byte) : (s.setY v).params = s.params := rfl

@[simp] theorem State.setSp_a (v : Byte) : (s.setSp v).a = s.a := rfl
@[simp] theorem State.setSp_x (v : Byte) : (s.setSp v).x = s.x := rfl
@[simp] theorem State.setSp_y (v : Byte) : (s.setSp v).y = s.y := rfl
@[simp] theorem State.setSp_sp (v : Byte) : (s.setSp v).sp = v := rfl
@[simp] theorem State.setSp_p (v : Byte) : (s.setSp v).p = s.p := rfl
@[simp] theorem State.setSp_pc (v : Byte) : (s.setSp v).pc = s.pc := rfl
@[simp] theorem State.setSp_cycles (v : Byte) : (s.setSp v).cycles = s.cycles := rfl
@[simp] theorem State.setSp_pending (v : Byte) : (s.setSp v).pending = s.pending := rfl
@[simp] theorem State.setSp_halted (v : Byte) : (s.setSp v).halted = s.halted := rfl
@[simp] theorem State.setSp_addrError (v : Byte) : (s.setSp v).addrError = s.addrError := rfl
@[simp] theorem State.setSp_addrErrorCount (v : Byte) : (s.setSp v).addrErrorCount = s.addrErrorCount := rfl
@[simp] theorem State.setSp_nmiLatch (v : Byte) : (s.setSp v).nmiLatch = s.nmiLatch := rfl
@[simp] theorem State.setSp_ram (v : Byte) : (s.setSp v).ram = s.ram := rfl
@[simp] theorem State.setSp_ppu (v : Byte) : (s.setSp v).ppu = s.ppu := rfl
@[simp] theorem State.setSp_vram (v : Byte) : (s.setSp v).vram = s.vram := rfl
@[simp] theorem State.setSp_oam (v : Byte) : (s.setSp v).oam = s.oam := rfl
@[simp] theorem State.setSp_pal (v : Byte) : (s.setSp v).pal = s.pal := rfl
@[simp] theorem State.setSp_fb (v : Byte) : (s.setSp v).fb = s.fb := rfl
@[simp] theorem State.setSp_frameReady (v : Byte) : (s.setSp v).frameReady = s.frameReady := rfl
@[simp] theorem State.setSp_sram (v : Byte) : (s.setSp v).sram = s.sram := rfl
@[simp] theorem State.setSp_master (v : Byte) : (s.setSp v).master = s.master := rfl
@[simp] theorem State.setSp_cart (v : Byte) : (s.setSp v).cart = s.cart := rfl
@[simp] theorem State.setSp_params (v : Byte) : (s.setSp v).params = s.params := rfl

@[simp] theorem State.setP_a (v : Byte) : (s.setP v).a = s.a := rfl
@[simp] theorem State.setP_x (v : Byte) : (s.setP v).x = s.x := rfl
@[simp] theorem State.setP_y (v : Byte) : (s.setP v).y = s.y := rfl
@[simp] theorem State.setP_sp (v : Byte) : (s.setP v).sp = s.sp := rfl
@[simp] theorem State.setP_p (v : Byte) : (s.setP v).p = v := rfl
@[simp] theorem State.setP_pc (v : Byte) : (s.setP v).pc = s.pc := rfl
@[simp] theorem State.setP_cycles (v : Byte) : (s.setP v).cycles = s.cycles := rfl
@[simp] theorem State.setP_pending (v : Byte) : (s.setP v).pending = s.pending := rfl
@[simp] theorem State.setP_halted (v : Byte) : (s.setP v).halted = s.halted := rfl
@[simp] theorem State.setP_addrError (v : Byte) : (s.setP v).addrError = s.addrError := rfl
@[simp] theorem State.setP_addrErrorCount (v : Byte) : (s.setP v).addrErrorCount = s.addrErrorCount := rfl
@[simp] theorem State.setP_nmiLatch (v : Byte) : (s.setP v).nmiLatch = s.nmiLatch := rfl
@[simp] theorem State.setP_ram (v : Byte) : (s.setP v).ram = s.ram := rfl
@[simp] theorem State.setP_ppu (v : Byte) : (s.setP v).ppu = s.ppu := rfl
@[simp] theorem State.setP_vram (v : Byte) : (s.setP v).vram = s.vram := rfl
@[simp] theorem State.setP_oam (v : Byte) : (s.setP v).oam = s.oam := rfl
@[simp] theorem State.setP_pal (v : Byte) : (s.setP v).pal = s.pal := rfl
@[simp] theorem State.setP_fb (v : Byte) : (s.setP v).fb = s.fb := rfl
@[simp] theorem State.setP_frameReady (v : Byte) : (s.setP v).frameReady = s.frameReady := rfl
@[simp] theorem State.setP_sram (v : Byte) : (s.setP v).sram = s.sram := rfl
@[simp] theorem State.setP_master (v : Byte) : (s.setP v).master = s.master := rfl
@[simp] theorem State.setP_cart (v : Byte) : (s.setP v).cart = s.cart := rfl
@[simp] theorem State.setP_params (v : Byte) : (s.setP v).params = s.params := rfl

@[simp] theorem State.setPc_a (v : Addr) : (s.setPc v).a = s.a := rfl
@[simp] theorem State.setPc_x (v : Addr) : (s.setPc v).x = s.x := rfl
@[simp] theorem State.setPc_y (v : Addr) : (s.setPc v).y = s.y := rfl
@[simp] theorem State.setPc_sp (v : Addr) : (s.setPc v).sp = s.sp := rfl
@[simp] theorem State.setPc_p (v : Addr) : (s.setPc v).p = s.p := rfl
@[simp] theorem State.setPc_pc (v : Addr) : (s.setPc v).pc = v := rfl
@[simp] theorem State.setPc_cycles (v : Addr) : (s.setPc v).cycles = s.cycles := rfl
@[simp] theorem State.setPc_pending (v : Addr) : (s.setPc v).pending = s.pending := rfl
@[simp] theorem State.setPc_halted (v : Addr) : (s.setPc v).halted = s.halted := rfl
@[simp] theorem State.setPc_addrError (v : Addr) : (s.setPc v).addrError = s.addrError := rfl
@[simp] theorem State.setPc_addrErrorCount (v : Addr) : (s.setPc v).addrErrorCount = s.addrErrorCount := rfl
@[simp] theorem State.setPc_nmiLatch (v : Addr) : (s.setPc v).nmiLatch = s.nmiLatch := rfl
@[simp] theorem State.setPc_ram (v : Addr) : (s.setPc v).ram = s.ram := rfl
@[simp] theorem State.setPc_ppu (v : Addr) : (s.setPc v).ppu = s.ppu := rfl
@[simp] theorem State.setPc_vram (v : Addr) : (s.setPc v).vram = s.vram := rfl
@[simp] theorem State.setPc_oam (v : Addr) : (s.setPc v).oam = s.oam := rfl
@[simp] theorem State.setPc_pal (v : Addr) : (s.setPc v).pal = s.pal := rfl
@[simp] theorem State.setPc_fb (v : Addr) : (s.setPc v).fb = s.fb := rfl
@[simp] theorem State.setPc_frameReady (v : Addr) : (s.setPc v).frameReady = s.frameReady := rfl
@[simp] theorem State.setPc_sram (v : Addr) : (s.setPc v).sram = s.sram := rfl
@[simp] theorem State.setPc_master (v : Addr) : (s.setPc v).master = s.master := rfl
@[simp] theorem State.setPc_cart (v : Addr) : (s.setPc v).cart = s.cart := rfl
@[simp] theorem State.setPc_params (v : Addr) : (s.setPc v).params = s.params := rfl

@[simp] theorem State.setCycles_a (v : BitVec 64) : (s.setCycles v).a = s.a := rfl
@[simp] theorem State.setCycles_x (v : BitVec 64) : (s.setCycles v).x = s.x := rfl
@[simp] theorem State.setCycles_y (v : BitVec 64) : (s.setCycles v).y = s.y := rfl
@[simp] theorem State.setCycles_sp (v : BitVec 64) : (s.setCycles v).sp = s.sp := rfl
@[simp] theorem State.setCycles_p (v : BitVec 64) : (s.setCycles v).p = s.p := rfl
@[simp] theorem State.setCycles_pc (v : BitVec 64) : (s.setCycles v).pc = s.pc := rfl
@[simp] theorem State.setCycles_cycles (v : BitVec 64) : (s.setCycles v).cycles = v := rfl
@[simp] theorem State.setCycles_pending (v : BitVec 64) : (s.setCycles v).pending = s.pending := rfl
@[simp] theorem State.setCycles_halted (v : BitVec 64) : (s.setCycles v).halted = s.halted := rfl
@[simp] theorem State.setCycles_addrError (v : BitVec 64) : (s.setCycles v).addrError = s.addrError := rfl
@[simp] theorem State.setCycles_addrErrorCount (v : BitVec 64) : (s.setCycles v).addrErrorCount = s.addrErrorCount := rfl
@[simp] theorem State.setCycles_nmiLatch (v : BitVec 64) : (s.setCycles v).nmiLatch = s.nmiLatch := rfl
@[simp] theorem State.setCycles_ram (v : BitVec 64) : (s.setCycles v).ram = s.ram := rfl
@[simp] theorem State.setCycles_ppu (v : BitVec 64) : (s.setCycles v).ppu = s.ppu := rfl
@[simp] theorem State.setCycles_vram (v : BitVec 64) : (s.setCycles v).vram = s.vram := rfl
@[simp] theorem State.setCycles_oam (v : BitVec 64) : (s.setCycles v).oam = s.oam := rfl
@[simp] theorem State.setCycles_pal (v : BitVec 64) : (s.setCycles v).pal = s.pal := rfl
@[simp] theorem State.setCycles_fb (v : BitVec 64) : (s.setCycles v).fb = s.fb := rfl
@[simp] theorem State.setCycles_frameReady (v : BitVec 64) : (s.setCycles v).frameReady = s.frameReady := rfl
@[simp] theorem State.setCycles_sram (v : BitVec 64) : (s.setCycles v).sram = s.sram := rfl
@[simp] theorem State.setCycles_master (v : BitVec 64) : (s.setCycles v).master = s.master := rfl
@[simp] theorem State.setCycles_cart (v : BitVec 64) : (s.setCycles v).cart = s.cart := rfl
@[simp] theorem State.setCycles_params (v : BitVec 64) : (s.setCycles v).params = s.params := rfl

@[simp] theorem State.setPending_a (v : Nat) : (s.setPending v).a = s.a := rfl
@[simp] theorem State.setPending_x (v : Nat) : (s.setPending v).x = s.x := rfl
@[simp] theorem State.setPending_y (v : Nat) : (s.setPending v).y = s.y := rfl
@[simp] theorem State.setPending_sp (v : Nat) : (s.setPending v).sp = s.sp := rfl
@[simp] theorem State.setPending_p (v : Nat) : (s.setPending v).p = s.p := rfl
@[simp] theorem State.setPending_pc (v : Nat) : (s.setPending v).pc = s.pc := rfl
@[simp] theorem State.setPending_cycles (v : Nat) : (s.setPending v).cycles = s.cycles := rfl
@[simp] theorem State.setPending_pending (v : Nat) : (s.setPending v).pending = v := rfl
@[simp] theorem State.setPending_halted (v : Nat) : (s.setPending v).halted = s.halted := rfl
@[simp] theorem State.setPending_addrError (v : Nat) : (s.setPending v).addrError = s.addrError := rfl
@[simp] theorem State.setPending_addrErrorCount (v : Nat) : (s.setPending v).addrErrorCount = s.addrErrorCount := rfl
@[simp] theorem State.setPending_nmiLatch (v : Nat) : (s.setPending v).nmiLatch = s.nmiLatch := rfl
@[simp] theorem State.setPending_ram (v : Nat) : (s.setPending v).ram = s.ram := rfl
@[simp] theorem State.setPending_ppu (v : Nat) : (s.setPending v).ppu = s.ppu := rfl
@[simp] theorem State.setPending_vram (v : Nat) : (s.setPending v).vram = s.vram := rfl
@[simp] theorem State.setPending_oam (v : Nat) : (s.setPending v).oam = s.oam := rfl
@[simp] theorem State.setPending_pal (v : Nat) : (s.setPending v).pal = s.pal := rfl
@[simp] theorem State.setPending_fb (v : Nat) : (s.setPending v).fb = s.fb := rfl
@[simp] theorem State.setPending_frameReady (v : Nat) : (s.setPending v).frameReady = s.frameReady := rfl
@[simp] theorem State.setPending_sram (v : Nat) : (s.setPending v).sram = s.sram := rfl
@[simp] theorem State.setPending_master (v : Nat) : (s.setPending v).master = s.master := rfl
@[simp] theorem State.setPending_cart (v : Nat) : (s.setPending v).cart = s.cart := rfl
@[simp] theorem State.setPending_params (v : Nat) : (s.setPending v).params = s.params := rfl

@[simp] theorem State.setHalted_a (v : Option Halt) : (s.setHalted v).a = s.a := rfl
@[simp] theorem State.setHalted_x (v : Option Halt) : (s.setHalted v).x = s.x := rfl
@[simp] theorem State.setHalted_y (v : Option Halt) : (s.setHalted v).y = s.y := rfl
@[simp] theorem State.setHalted_sp (v : Option Halt) : (s.setHalted v).sp = s.sp := rfl
@[simp] theorem State.setHalted_p (v : Option Halt) : (s.setHalted v).p = s.p := rfl
@[simp] theorem State.setHalted_pc (v : Option Halt) : (s.setHalted v).pc = s.pc := rfl
@[simp] theorem State.setHalted_cycles (v : Option Halt) : (s.setHalted v).cycles = s.cycles := rfl
@[simp] theorem State.setHalted_pending (v : Option Halt) : (s.setHalted v).pending = s.pending := rfl
@[simp] theorem State.setHalted_halted (v : Option Halt) : (s.setHalted v).halted = v := rfl
@[simp] theorem State.setHalted_addrError (v : Option Halt) : (s.setHalted v).addrError = s.addrError := rfl
@[simp] theorem State.setHalted_addrErrorCount (v : Option Halt) : (s.setHalted v).addrErrorCount = s.addrErrorCount := rfl
@[simp] theorem State.setHalted_nmiLatch (v : Option Halt) : (s.setHalted v).nmiLatch = s.nmiLatch := rfl
@[simp] theorem State.setHalted_ram (v : Option Halt) : (s.setHalted v).ram = s.ram := rfl
@[simp] theorem State.setHalted_ppu (v : Option Halt) : (s.setHalted v).ppu = s.ppu := rfl
@[simp] theorem State.setHalted_vram (v : Option Halt) : (s.setHalted v).vram = s.vram := rfl
@[simp] theorem State.setHalted_oam (v : Option Halt) : (s.setHalted v).oam = s.oam := rfl
@[simp] theorem State.setHalted_pal (v : Option Halt) : (s.setHalted v).pal = s.pal := rfl
@[simp] theorem State.setHalted_fb (v : Option Halt) : (s.setHalted v).fb = s.fb := rfl
@[simp] theorem State.setHalted_frameReady (v : Option Halt) : (s.setHalted v).frameReady = s.frameReady := rfl
@[simp] theorem State.setHalted_sram (v : Option Halt) : (s.setHalted v).sram = s.sram := rfl
@[simp] theorem State.setHalted_master (v : Option Halt) : (s.setHalted v).master = s.master := rfl
@[simp] theorem State.setHalted_cart (v : Option Halt) : (s.setHalted v).cart = s.cart := rfl
@[simp] theorem State.setHalted_params (v : Option Halt) : (s.setHalted v).params = s.params := rfl

@[simp] theorem State.setNmiLatch_a (v : Bool) : (s.setNmiLatch v).a = s.a := rfl
@[simp] theorem State.setNmiLatch_x (v : Bool) : (s.setNmiLatch v).x = s.x := rfl
@[simp] theorem State.setNmiLatch_y (v : Bool) : (s.setNmiLatch v).y = s.y := rfl
@[simp] theorem State.setNmiLatch_sp (v : Bool) : (s.setNmiLatch v).sp = s.sp := rfl
@[simp] theorem State.setNmiLatch_p (v : Bool) : (s.setNmiLatch v).p = s.p := rfl
@[simp] theorem State.setNmiLatch_pc (v : Bool) : (s.setNmiLatch v).pc = s.pc := rfl
@[simp] theorem State.setNmiLatch_cycles (v : Bool) : (s.setNmiLatch v).cycles = s.cycles := rfl
@[simp] theorem State.setNmiLatch_pending (v : Bool) : (s.setNmiLatch v).pending = s.pending := rfl
@[simp] theorem State.setNmiLatch_halted (v : Bool) : (s.setNmiLatch v).halted = s.halted := rfl
@[simp] theorem State.setNmiLatch_addrError (v : Bool) : (s.setNmiLatch v).addrError = s.addrError := rfl
@[simp] theorem State.setNmiLatch_addrErrorCount (v : Bool) : (s.setNmiLatch v).addrErrorCount = s.addrErrorCount := rfl
@[simp] theorem State.setNmiLatch_nmiLatch (v : Bool) : (s.setNmiLatch v).nmiLatch = v := rfl
@[simp] theorem State.setNmiLatch_ram (v : Bool) : (s.setNmiLatch v).ram = s.ram := rfl
@[simp] theorem State.setNmiLatch_ppu (v : Bool) : (s.setNmiLatch v).ppu = s.ppu := rfl
@[simp] theorem State.setNmiLatch_vram (v : Bool) : (s.setNmiLatch v).vram = s.vram := rfl
@[simp] theorem State.setNmiLatch_oam (v : Bool) : (s.setNmiLatch v).oam = s.oam := rfl
@[simp] theorem State.setNmiLatch_pal (v : Bool) : (s.setNmiLatch v).pal = s.pal := rfl
@[simp] theorem State.setNmiLatch_fb (v : Bool) : (s.setNmiLatch v).fb = s.fb := rfl
@[simp] theorem State.setNmiLatch_frameReady (v : Bool) : (s.setNmiLatch v).frameReady = s.frameReady := rfl
@[simp] theorem State.setNmiLatch_sram (v : Bool) : (s.setNmiLatch v).sram = s.sram := rfl
@[simp] theorem State.setNmiLatch_master (v : Bool) : (s.setNmiLatch v).master = s.master := rfl
@[simp] theorem State.setNmiLatch_cart (v : Bool) : (s.setNmiLatch v).cart = s.cart := rfl
@[simp] theorem State.setNmiLatch_params (v : Bool) : (s.setNmiLatch v).params = s.params := rfl

@[simp] theorem State.setRam_a (v : Memory) : (s.setRam v).a = s.a := rfl
@[simp] theorem State.setRam_x (v : Memory) : (s.setRam v).x = s.x := rfl
@[simp] theorem State.setRam_y (v : Memory) : (s.setRam v).y = s.y := rfl
@[simp] theorem State.setRam_sp (v : Memory) : (s.setRam v).sp = s.sp := rfl
@[simp] theorem State.setRam_p (v : Memory) : (s.setRam v).p = s.p := rfl
@[simp] theorem State.setRam_pc (v : Memory) : (s.setRam v).pc = s.pc := rfl
@[simp] theorem State.setRam_cycles (v : Memory) : (s.setRam v).cycles = s.cycles := rfl
@[simp] theorem State.setRam_pending (v : Memory) : (s.setRam v).pending = s.pending := rfl
@[simp] theorem State.setRam_halted (v : Memory) : (s.setRam v).halted = s.halted := rfl
@[simp] theorem State.setRam_addrError (v : Memory) : (s.setRam v).addrError = s.addrError := rfl
@[simp] theorem State.setRam_addrErrorCount (v : Memory) : (s.setRam v).addrErrorCount = s.addrErrorCount := rfl
@[simp] theorem State.setRam_nmiLatch (v : Memory) : (s.setRam v).nmiLatch = s.nmiLatch := rfl
@[simp] theorem State.setRam_ram (v : Memory) : (s.setRam v).ram = v := rfl
@[simp] theorem State.setRam_ppu (v : Memory) : (s.setRam v).ppu = s.ppu := rfl
@[simp] theorem State.setRam_vram (v : Memory) : (s.setRam v).vram = s.vram := rfl
@[simp] theorem State.setRam_oam (v : Memory) : (s.setRam v).oam = s.oam := rfl
@[simp] theorem State.setRam_pal (v : Memory) : (s.setRam v).pal = s.pal := rfl
@[simp] theorem State.setRam_fb (v : Memory) : (s.setRam v).fb = s.fb := rfl
@[simp] theorem State.setRam_frameReady (v : Memory) : (s.setRam v).frameReady = s.frameReady := rfl
@[simp] theorem State.setRam_sram (v : Memory) : (s.setRam v).sram = s.sram := rfl
@[simp] theorem State.setRam_master (v : Memory) : (s.setRam v).master = s.master := rfl
@[simp] theorem State.setRam_cart (v : Memory) : (s.setRam v).cart = s.cart := rfl
@[simp] theorem State.setRam_params (v : Memory) : (s.setRam v).params = s.params := rfl

@[simp] theorem State.setPpu_a (v : Ppu) : (s.setPpu v).a = s.a := rfl
@[simp] theorem State.setPpu_x (v : Ppu) : (s.setPpu v).x = s.x := rfl
@[simp] theorem State.setPpu_y (v : Ppu) : (s.setPpu v).y = s.y := rfl
@[simp] theorem State.setPpu_sp (v : Ppu) : (s.setPpu v).sp = s.sp := rfl
@[simp] theorem State.setPpu_p (v : Ppu) : (s.setPpu v).p = s.p := rfl
@[simp] theorem State.setPpu_pc (v : Ppu) : (s.setPpu v).pc = s.pc := rfl
@[simp] theorem State.setPpu_cycles (v : Ppu) : (s.setPpu v).cycles = s.cycles := rfl
@[simp] theorem State.setPpu_pending (v : Ppu) : (s.setPpu v).pending = s.pending := rfl
@[simp] theorem State.setPpu_halted (v : Ppu) : (s.setPpu v).halted = s.halted := rfl
@[simp] theorem State.setPpu_addrError (v : Ppu) : (s.setPpu v).addrError = s.addrError := rfl
@[simp] theorem State.setPpu_addrErrorCount (v : Ppu) : (s.setPpu v).addrErrorCount = s.addrErrorCount := rfl
@[simp] theorem State.setPpu_nmiLatch (v : Ppu) : (s.setPpu v).nmiLatch = s.nmiLatch := rfl
@[simp] theorem State.setPpu_ram (v : Ppu) : (s.setPpu v).ram = s.ram := rfl
@[simp] theorem State.setPpu_ppu (v : Ppu) : (s.setPpu v).ppu = v := rfl
@[simp] theorem State.setPpu_vram (v : Ppu) : (s.setPpu v).vram = s.vram := rfl
@[simp] theorem State.setPpu_oam (v : Ppu) : (s.setPpu v).oam = s.oam := rfl
@[simp] theorem State.setPpu_pal (v : Ppu) : (s.setPpu v).pal = s.pal := rfl
@[simp] theorem State.setPpu_fb (v : Ppu) : (s.setPpu v).fb = s.fb := rfl
@[simp] theorem State.setPpu_frameReady (v : Ppu) : (s.setPpu v).frameReady = s.frameReady := rfl
@[simp] theorem State.setPpu_sram (v : Ppu) : (s.setPpu v).sram = s.sram := rfl
@[simp] theorem State.setPpu_master (v : Ppu) : (s.setPpu v).master = s.master := rfl
@[simp] theorem State.setPpu_cart (v : Ppu) : (s.setPpu v).cart = s.cart := rfl
@[simp] theorem State.setPpu_params (v : Ppu) : (s.setPpu v).params = s.params := rfl

@[simp] theorem State.setVram_a (v : Memory) : (s.setVram v).a = s.a := rfl
@[simp] theorem State.setVram_x (v : Memory) : (s.setVram v).x = s.x := rfl
@[simp] theorem State.setVram_y (v : Memory) : (s.setVram v).y = s.y := rfl
@[simp] theorem State.setVram_sp (v : Memory) : (s.setVram v).sp = s.sp := rfl
@[simp] theorem State.setVram_p (v : Memory) : (s.setVram v).p = s.p := rfl
@[simp] theorem State.setVram_pc (v : Memory) : (s.setVram v).pc = s.pc := rfl
@[simp] theorem State.setVram_cycles (v : Memory) : (s.setVram v).cycles = s.cycles := rfl
@[simp] theorem State.setVram_pending (v : Memory) : (s.setVram v).pending = s.pending := rfl
@[simp] theorem State.setVram_halted (v : Memory) : (s.setVram v).halted = s.halted := rfl
@[simp] theorem State.setVram_addrError (v : Memory) : (s.setVram v).addrError = s.addrError := rfl
@[simp] theorem State.setVram_addrErrorCount (v : Memory) : (s.setVram v).addrErrorCount = s.addrErrorCount := rfl
@[simp] theorem State.setVram_nmiLatch (v : Memory) : (s.setVram v).nmiLatch = s.nmiLatch := rfl
@[simp] theorem State.setVram_ram (v : Memory) : (s.setVram v).ram = s.ram := rfl
@[simp] theorem State.setVram_ppu (v : Memory) : (s.setVram v).ppu = s.ppu := rfl
@[simp] theorem State.setVram_vram (v : Memory) : (s.setVram v).vram = v := rfl
@[simp] theorem State.setVram_oam (v : Memory) : (s.setVram v).oam = s.oam := rfl
@[simp] theorem State.setVram_pal (v : Memory) : (s.setVram v).pal = s.pal := rfl
@[simp] theorem State.setVram_fb (v : Memory) : (s.setVram v).fb = s.fb := rfl
@[simp] theorem State.setVram_frameReady (v : Memory) : (s.setVram v).frameReady = s.frameReady := rfl
@[simp] theorem State.setVram_sram (v : Memory) : (s.setVram v).sram = s.sram := rfl
@[simp] theorem State.setVram_master (v : Memory) : (s.setVram v).master = s.master := rfl
@[simp] theorem State.setVram_cart (v : Memory) : (s.setVram v).cart = s.cart := rfl
@[simp] theorem State.setVram_params (v : Memory) : (s.setVram v).params = s.params := rfl

@[simp] theorem State.setOam_a (v : Memory) : (s.setOam v).a = s.a := rfl
@[simp] theorem State.setOam_x (v : Memory) : (s.setOam v).x = s.x := rfl
@[simp] theorem State.setOam_y (v : Memory) : (s.setOam v).y = s.y := rfl
@[simp] theorem State.setOam_sp (v : Memory) : (s.setOam v).sp = s.sp := rfl
@[simp] theorem State.setOam_p (v : Memory) : (s.setOam v).p = s.p := rfl
@[simp] theorem State.setOam_pc (v : Memory) : (s.setOam v).pc = s.pc := rfl
@[simp] theorem State.setOam_cycles (v : Memory) : (s.setOam v).cycles = s.cycles := rfl
@[simp] theorem State.setOam_pending (v : Memory) : (s.setOam v).pending = s.pending := rfl
@[simp] theorem State.setOam_halted (v : Memory) : (s.setOam v).halted = s.halted := rfl
@[simp] theorem State.setOam_addrError (v : Memory) : (s.setOam v).addrError = s.addrError := rfl
@[simp] theorem State.setOam_addrErrorCount (v : Memory) : (s.setOam v).addrErrorCount = s.addrErrorCount := rfl
@[simp] theorem State.setOam_nmiLatch (v : Memory) : (s.setOam v).nmiLatch = s.nmiLatch := rfl
@[simp] theorem State.setOam_ram (v : Memory) : (s.setOam v).ram = s.ram := rfl
@[simp] theorem State.setOam_ppu (v : Memory) : (s.setOam v).ppu = s.ppu := rfl
@[simp] theorem State.setOam_vram (v : Memory) : (s.setOam v).vram = s.vram := rfl
@[simp] theorem State.setOam_oam (v : Memory) : (s.setOam v).oam = v := rfl
@[simp] theorem State.setOam_pal (v : Memory) : (s.setOam v).pal = s.pal := rfl
@[simp] theorem State.setOam_fb (v : Memory) : (s.setOam v).fb = s.fb := rfl
@[simp] theorem State.setOam_frameReady (v : Memory) : (s.setOam v).frameReady = s.frameReady := rfl
@[simp] theorem State.setOam_sram (v : Memory) : (s.setOam v).sram = s.sram := rfl
@[simp] theorem State.setOam_master (v : Memory) : (s.setOam v).master = s.master := rfl
@[simp] theorem State.setOam_cart (v : Memory) : (s.setOam v).cart = s.cart := rfl
@[simp] theorem State.setOam_params (v : Memory) : (s.setOam v).params = s.params := rfl

@[simp] theorem State.setPal_a (v : Memory) : (s.setPal v).a = s.a := rfl
@[simp] theorem State.setPal_x (v : Memory) : (s.setPal v).x = s.x := rfl
@[simp] theorem State.setPal_y (v : Memory) : (s.setPal v).y = s.y := rfl
@[simp] theorem State.setPal_sp (v : Memory) : (s.setPal v).sp = s.sp := rfl
@[simp] theorem State.setPal_p (v : Memory) : (s.setPal v).p = s.p := rfl
@[simp] theorem State.setPal_pc (v : Memory) : (s.setPal v).pc = s.pc := rfl
@[simp] theorem State.setPal_cycles (v : Memory) : (s.setPal v).cycles = s.cycles := rfl
@[simp] theorem State.setPal_pending (v : Memory) : (s.setPal v).pending = s.pending := rfl
@[simp] theorem State.setPal_halted (v : Memory) : (s.setPal v).halted = s.halted := rfl
@[simp] theorem State.setPal_addrError (v : Memory) : (s.setPal v).addrError = s.addrError := rfl
@[simp] theorem State.setPal_addrErrorCount (v : Memory) : (s.setPal v).addrErrorCount = s.addrErrorCount := rfl
@[simp] theorem State.setPal_nmiLatch (v : Memory) : (s.setPal v).nmiLatch = s.nmiLatch := rfl
@[simp] theorem State.setPal_ram (v : Memory) : (s.setPal v).ram = s.ram := rfl
@[simp] theorem State.setPal_ppu (v : Memory) : (s.setPal v).ppu = s.ppu := rfl
@[simp] theorem State.setPal_vram (v : Memory) : (s.setPal v).vram = s.vram := rfl
@[simp] theorem State.setPal_oam (v : Memory) : (s.setPal v).oam = s.oam := rfl
@[simp] theorem State.setPal_pal (v : Memory) : (s.setPal v).pal = v := rfl
@[simp] theorem State.setPal_fb (v : Memory) : (s.setPal v).fb = s.fb := rfl
@[simp] theorem State.setPal_frameReady (v : Memory) : (s.setPal v).frameReady = s.frameReady := rfl
@[simp] theorem State.setPal_sram (v : Memory) : (s.setPal v).sram = s.sram := rfl
@[simp] theorem State.setPal_master (v : Memory) : (s.setPal v).master = s.master := rfl
@[simp] theorem State.setPal_cart (v : Memory) : (s.setPal v).cart = s.cart := rfl
@[simp] theorem State.setPal_params (v : Memory) : (s.setPal v).params = s.params := rfl

@[simp] theorem State.setFb_a (v : Memory) : (s.setFb v).a = s.a := rfl
@[simp] theorem State.setFb_x (v : Memory) : (s.setFb v).x = s.x := rfl
@[simp] theorem State.setFb_y (v : Memory) : (s.setFb v).y = s.y := rfl
@[simp] theorem State.setFb_sp (v : Memory) : (s.setFb v).sp = s.sp := rfl
@[simp] theorem State.setFb_p (v : Memory) : (s.setFb v).p = s.p := rfl
@[simp] theorem State.setFb_pc (v : Memory) : (s.setFb v).pc = s.pc := rfl
@[simp] theorem State.setFb_cycles (v : Memory) : (s.setFb v).cycles = s.cycles := rfl
@[simp] theorem State.setFb_pending (v : Memory) : (s.setFb v).pending = s.pending := rfl
@[simp] theorem State.setFb_halted (v : Memory) : (s.setFb v).halted = s.halted := rfl
@[simp] theorem State.setFb_addrError (v : Memory) : (s.setFb v).addrError = s.addrError := rfl
@[simp] theorem State.setFb_addrErrorCount (v : Memory) : (s.setFb v).addrErrorCount = s.addrErrorCount := rfl
@[simp] theorem State.setFb_nmiLatch (v : Memory) : (s.setFb v).nmiLatch = s.nmiLatch := rfl
@[simp] theorem State.setFb_ram (v : Memory) : (s.setFb v).ram = s.ram := rfl
@[simp] theorem State.setFb_ppu (v : Memory) : (s.setFb v).ppu = s.ppu := rfl
@[simp] theorem State.setFb_vram (v : Memory) : (s.setFb v).vram = s.vram := rfl
@[simp] theorem State.setFb_oam (v : Memory) : (s.setFb v).oam = s.oam := rfl
@[simp] theorem State.setFb_pal (v : Memory) : (s.setFb v).pal = s.pal := rfl
@[simp] theorem State.setFb_fb (v : Memory) : (s.setFb v).fb = v := rfl
@[simp] theorem State.setFb_frameReady (v : Memory) : (s.setFb v).frameReady = s.frameReady := rfl
@[simp] theorem State.setFb_sram (v : Memory) : (s.setFb v).sram = s.sram := rfl
@[simp] theorem State.setFb_master (v : Memory) : (s.setFb v).master = s.master := rfl
@[simp] theorem State.setFb_cart (v : Memory) : (s.setFb v).cart = s.cart := rfl
@[simp] theorem State.setFb_params (v : Memory) : (s.setFb v).params = s.params := rfl

@[simp] theorem State.setFrameReady_a (v : Bool) : (s.setFrameReady v).a = s.a := rfl
@[simp] theorem State.setFrameReady_x (v : Bool) : (s.setFrameReady v).x = s.x := rfl
@[simp] theorem State.setFrameReady_y (v : Bool) : (s.setFrameReady v).y = s.y := rfl
@[simp] theorem State.setFrameReady_sp (v : Bool) : (s.setFrameReady v).sp = s.sp := rfl
@[simp] theorem State.setFrameReady_p (v : Bool) : (s.setFrameReady v).p = s.p := rfl
@[simp] theorem State.setFrameReady_pc (v : Bool) : (s.setFrameReady v).pc = s.pc := rfl
@[simp] theorem State.setFrameReady_cycles (v : Bool) : (s.setFrameReady v).cycles = s.cycles := rfl
@[simp] theorem State.setFrameReady_pending (v : Bool) : (s.setFrameReady v).pending = s.pending := rfl
@[simp] theorem State.setFrameReady_halted (v : Bool) : (s.setFrameReady v).halted = s.halted := rfl
@[simp] theorem State.setFrameReady_addrError (v : Bool) : (s.setFrameReady v).addrError = s.addrError := rfl
@[simp] theorem State.setFrameReady_addrErrorCount (v : Bool) : (s.setFrameReady v).addrErrorCount = s.addrErrorCount := rfl
@[simp] theorem State.setFrameReady_nmiLatch (v : Bool) : (s.setFrameReady v).nmiLatch = s.nmiLatch := rfl
@[simp] theorem State.setFrameReady_ram (v : Bool) : (s.setFrameReady v).ram = s.ram := rfl
@[simp] theorem State.setFrameReady_ppu (v : Bool) : (s.setFrameReady v).ppu = s.ppu := rfl
@[simp] theorem State.setFrameReady_vram (v : Bool) : (s.setFrameReady v).vram = s.vram := rfl
@[simp] theorem State.setFrameReady_oam (v : Bool) : (s.setFrameReady v).oam = s.oam := rfl
@[simp] theorem State.setFrameReady_pal (v : Bool) : (s.setFrameReady v).pal = s.pal := rfl
@[simp] theorem State.setFrameReady_fb (v : Bool) : (s.setFrameReady v).fb = s.fb := rfl
@[simp] theorem State.setFrameReady_frameReady (v : Bool) : (s.setFrameReady v).frameReady = v := rfl
@[simp] theorem State.setFrameReady_sram (v : Bool) : (s.setFrameReady v).sram = s.sram := rfl
@[simp] theorem State.setFrameReady_master (v : Bool) : (s.setFrameReady v).master = s.master := rfl
@[simp] theorem State.setFrameReady_cart (v : Bool) : (s.setFrameReady v).cart = s.cart := rfl
@[simp] theorem State.setFrameReady_params (v : Bool) : (s.setFrameReady v).params = s.params := rfl

@[simp] theorem State.setSram_a (v : Memory) : (s.setSram v).a = s.a := rfl
@[simp] theorem State.setSram_x (v : Memory) : (s.setSram v).x = s.x := rfl
@[simp] theorem State.setSram_y (v : Memory) : (s.setSram v).y = s.y := rfl
@[simp] theorem State.setSram_sp (v : Memory) : (s.setSram v).sp = s.sp := rfl
@[simp] theorem State.setSram_p (v : Memory) : (s.setSram v).p = s.p := rfl
@[simp] theorem State.setSram_pc (v : Memory) : (s.setSram v).pc = s.pc := rfl
@[simp] theorem State.setSram_cycles (v : Memory) : (s.setSram v).cycles = s.cycles := rfl
@[simp] theorem State.setSram_pending (v : Memory) : (s.setSram v).pending = s.pending := rfl
@[simp] theorem State.setSram_halted (v : Memory) : (s.setSram v).halted = s.halted := rfl
@[simp] theorem State.setSram_addrError (v : Memory) : (s.setSram v).addrError = s.addrError := rfl
@[simp] theorem State.setSram_addrErrorCount (v : Memory) : (s.setSram v).addrErrorCount = s.addrErrorCount := rfl
@[simp] theorem State.setSram_nmiLatch (v : Memory) : (s.setSram v).nmiLatch = s.nmiLatch := rfl
@[simp] theorem State.setSram_ram (v : Memory) : (s.setSram v).ram = s.ram := rfl
@[simp] theorem State.setSram_ppu (v : Memory) : (s.setSram v).ppu = s.ppu := rfl
@[simp] theorem State.setSram_vram (v : Memory) : (s.setSram v).vram = s.vram := rfl
@[simp] theorem State.setSram_oam (v : Memory) : (s.setSram v).oam = s.oam := rfl
@[simp] theorem State.setSram_pal (v : Memory) : (s.setSram v).pal = s.pal := rfl
@[simp] theorem State.setSram_fb (v : Memory) : (s.setSram v).fb = s.fb := rfl
@[simp] theorem State.setSram_frameReady (v : Memory) : (s.setSram v).frameReady = s.frameReady := rfl
@[simp] theorem State.setSram_sram (v : Memory) : (s.setSram v).sram = v := rfl
@[simp] theorem State.setSram_master (v : Memory) : (s.setSram v).master = s.master := rfl
@[simp] theorem State.setSram_cart (v : Memory) : (s.setSram v).cart = s.cart := rfl
@[simp] theorem State.setSram_params (v : Memory) : (s.setSram v).params = s.params := rfl

@[simp] theorem State.setMaster_a (v : Nat) : (s.setMaster v).a = s.a := rfl
@[simp] theorem State.setMaster_x (v : Nat) : (s.setMaster v).x = s.x := rfl
@[simp] theorem State.setMaster_y (v : Nat) : (s.setMaster v).y = s.y := rfl
@[simp] theorem State.setMaster_sp (v : Nat) : (s.setMaster v).sp = s.sp := rfl
@[simp] theorem State.setMaster_p (v : Nat) : (s.setMaster v).p = s.p := rfl
@[simp] theorem State.setMaster_pc (v : Nat) : (s.setMaster v).pc = s.pc := rfl
@[simp] theorem State.setMaster_cycles (v : Nat) : (s.setMaster v).cycles = s.cycles := rfl
@[simp] theorem State.setMaster_pending (v : Nat) : (s.setMaster v).pending = s.pending := rfl
@[simp] theorem State.setMaster_halted (v : Nat) : (s.setMaster v).halted = s.halted := rfl
@[simp] theorem State.setMaster_addrError (v : Nat) : (s.setMaster v).addrError = s.addrError := rfl
@[simp] theorem State.setMaster_addrErrorCount (v : Nat) : (s.setMaster v).addrErrorCount = s.addrErrorCount := rfl
@[simp] theorem State.setMaster_nmiLatch (v : Nat) : (s.setMaster v).nmiLatch = s.nmiLatch := rfl
@[simp] theorem State.setMaster_ram (v : Nat) : (s.setMaster v).ram = s.ram := rfl
@[simp] theorem State.setMaster_ppu (v : Nat) : (s.setMaster v).ppu = s.ppu := rfl
@[simp] theorem State.setMaster_vram (v : Nat) : (s.setMaster v).vram = s.vram := rfl
@[simp] theorem State.setMaster_oam (v : Nat) : (s.setMaster v).oam = s.oam := rfl
@[simp] theorem State.setMaster_pal (v : Nat) : (s.setMaster v).pal = s.pal := rfl
@[simp] theorem State.setMaster_fb (v : Nat) : (s.setMaster v).fb = s.fb := rfl
@[simp] theorem State.setMaster_frameReady (v : Nat) : (s.setMaster v).frameReady = s.frameReady := rfl
@[simp] theorem State.setMaster_sram (v : Nat) : (s.setMaster v).sram = s.sram := rfl
@[simp] theorem State.setMaster_master (v : Nat) : (s.setMaster v).master = v := rfl
@[simp] theorem State.setMaster_cart (v : Nat) : (s.setMaster v).cart = s.cart := rfl
@[simp] theorem State.setMaster_params (v : Nat) : (s.setMaster v).params = s.params := rfl

@[simp] theorem State.setCart_a (v : Cartridge) : (s.setCart v).a = s.a := rfl
@[simp] theorem State.setCart_x (v : Cartridge) : (s.setCart v).x = s.x := rfl
@[simp] theorem State.setCart_y (v : Cartridge) : (s.setCart v).y = s.y := rfl
@[simp] theorem State.setCart_sp (v : Cartridge) : (s.setCart v).sp = s.sp := rfl
@[simp] theorem State.setCart_p (v : Cartridge) : (s.setCart v).p = s.p := rfl
@[simp] theorem State.setCart_pc (v : Cartridge) : (s.setCart v).pc = s.pc := rfl
@[simp] theorem State.setCart_cycles (v : Cartridge) : (s.setCart v).cycles = s.cycles := rfl
@[simp] theorem State.setCart_pending (v : Cartridge) : (s.setCart v).pending = s.pending := rfl
@[simp] theorem State.setCart_halted (v : Cartridge) : (s.setCart v).halted = s.halted := rfl
@[simp] theorem State.setCart_addrError (v : Cartridge) : (s.setCart v).addrError = s.addrError := rfl
@[simp] theorem State.setCart_addrErrorCount (v : Cartridge) : (s.setCart v).addrErrorCount = s.addrErrorCount := rfl
@[simp] theorem State.setCart_nmiLatch (v : Cartridge) : (s.setCart v).nmiLatch = s.nmiLatch := rfl
@[simp] theorem State.setCart_ram (v : Cartridge) : (s.setCart v).ram = s.ram := rfl
@[simp] theorem State.setCart_ppu (v : Cartridge) : (s.setCart v).ppu = s.ppu := rfl
@[simp] theorem State.setCart_vram (v : Cartridge) : (s.setCart v).vram = s.vram := rfl
@[simp] theorem State.setCart_oam (v : Cartridge) : (s.setCart v).oam = s.oam := rfl
@[simp] theorem State.setCart_pal (v : Cartridge) : (s.setCart v).pal = s.pal := rfl
@[simp] theorem State.setCart_fb (v : Cartridge) : (s.setCart v).fb = s.fb := rfl
@[simp] theorem State.setCart_frameReady (v : Cartridge) : (s.setCart v).frameReady = s.frameReady := rfl
@[simp] theorem State.setCart_sram (v : Cartridge) : (s.setCart v).sram = s.sram := rfl
@[simp] theorem State.setCart_master (v : Cartridge) : (s.setCart v).master = s.master := rfl
@[simp] theorem State.setCart_cart (v : Cartridge) : (s.setCart v).cart = v := rfl
@[simp] theorem State.setCart_params (v : Cartridge) : (s.setCart v).params = s.params := rfl

end Sys2Proof.Machine
end

