-- ==== Sys2Proof/Laws/Words.lean ====
section
/-! SUPPORT. The numbers behind the word helpers of Decode.lean and the addresses built from them. -/

namespace Sys2Proof

@[simp] theorem word_toNat (h l : Byte) : (word h l).toNat = h.toNat * 256 + l.toNat := by
  have hl := l.isLt
  simp only [word, BitVec.toNat_append]
  rw [← Nat.shiftLeft_add_eq_or_of_lt hl, Nat.shiftLeft_eq]

@[simp] theorem lo_toNat (w : Addr) : (lo w).toNat = w.toNat % 256 := by
  simp [lo, BitVec.extractLsb'_toNat]

@[simp] theorem hi_toNat (w : Addr) : (hi w).toNat = w.toNat / 256 := by
  have := w.isLt
  simp only [hi, BitVec.extractLsb'_toNat, Nat.shiftRight_eq_div_pow]
  omega

@[simp] theorem zext_toNat (b : Byte) : (zext b).toNat = b.toNat := by
  have := b.isLt
  simp only [zext, BitVec.toNat_setWidth]
  omega

@[simp] theorem word_hi_lo (w : Addr) : word (hi w) (lo w) = w := by
  apply BitVec.eq_of_toNat_eq
  have := w.isLt
  simp only [word_toNat, hi_toNat, lo_toNat]
  omega

@[simp] theorem lo_word (h l : Byte) : lo (word h l) = l := by
  apply BitVec.eq_of_toNat_eq
  have := l.isLt
  simp only [lo_toNat, word_toNat]
  omega

@[simp] theorem hi_word (h l : Byte) : hi (word h l) = h := by
  apply BitVec.eq_of_toNat_eq
  have := l.isLt
  simp only [hi_toNat, word_toNat]
  omega

namespace Machine

@[simp] theorem stackAddr_toNat (sp : Byte) : (stackAddr sp).toNat = 0x100 + sp.toNat := by
  simp [stackAddr]

theorem stackAddr_lt (sp : Byte) : (stackAddr sp).toNat < 0x200 := by
  have := sp.isLt
  simp only [stackAddr_toNat]; omega

end Machine

end Sys2Proof
end

