-- ==== Sys2Proof/Laws/Bus.lean ====
section
/-! SUPPORT. What the CPU bus can do, said once: which fields a read and a write can change, and the plain regions. -/

namespace Sys2Proof.Machine

/-! ## Register window -/

/-- A register read changes nothing but the vblank flag, the toggle, the buffer and the data port's address (R226, R229,
R233, R235). -/
theorem ppuRegRead_state (r : Nat) (s : State) :
    (ppuRegRead r s).2 = s.setPpu { s.ppu with
      vblank := (ppuRegRead r s).2.ppu.vblank, w := (ppuRegRead r s).2.ppu.w,
      readBuf := (ppuRegRead r s).2.ppu.readBuf, vaddr := (ppuRegRead r s).2.ppu.vaddr } := by
  unfold ppuRegRead readStatus readOamData readData
  split_ifs <;> simp [State.setPpu] <;> split_ifs <;> rfl

theorem ppuWrite_state (a : PAddr) (b : Byte) (s : State) :
    ppuWrite a b s = { s with vram := (ppuWrite a b s).vram, pal := (ppuWrite a b s).pal } := by
  unfold ppuWrite
  split_ifs <;> rfl

/-- A register write changes PPU registers and, through the data ports, VRAM, palette and OAM (R223 to R234); it never moves
the PPU's position. -/
theorem ppuRegWrite_state (r : Nat) (b : Byte) (s : State) :
    ppuRegWrite r b s = { s with
      ppu := { (ppuRegWrite r b s).ppu with
        vblank := s.ppu.vblank, readBuf := s.ppu.readBuf, cycle := s.ppu.cycle, scanline := s.ppu.scanline,
        stage := s.ppu.stage, parity := s.ppu.parity, oamDma := s.ppu.oamDma }
      vram := (ppuRegWrite r b s).vram, pal := (ppuRegWrite r b s).pal, oam := (ppuRegWrite r b s).oam } := by
  unfold ppuRegWrite writeCtrl writeMask writeOamAddr writeOamData writeScroll writeAddr writeData ppuWrite
  split_ifs <;> rfl

/-! ## Reads -/

/-- A read changes at most those four PPU registers and the AddressError record (R56). -/
theorem busRead_state (a : Addr) (s : State) :
    (busRead a s).2 = { s with
      ppu := { s.ppu with
        vblank := (busRead a s).2.ppu.vblank, w := (busRead a s).2.ppu.w,
        readBuf := (busRead a s).2.ppu.readBuf, vaddr := (busRead a s).2.ppu.vaddr }
      addrError := (busRead a s).2.addrError
      addrErrorCount := (busRead a s).2.addrErrorCount } := by
  unfold busRead
  split_ifs <;> try rfl
  · have h := ppuRegRead_state (a.toNat % 8) s
    rw [h]; rfl
  · unfold readSram reportAddrError
    split_ifs <;> rfl

@[simp] theorem busRead_a (a : Addr) (s : State) : (busRead a s).2.a = s.a := by rw [busRead_state]
@[simp] theorem busRead_x (a : Addr) (s : State) : (busRead a s).2.x = s.x := by rw [busRead_state]
@[simp] theorem busRead_y (a : Addr) (s : State) : (busRead a s).2.y = s.y := by rw [busRead_state]
@[simp] theorem busRead_sp (a : Addr) (s : State) : (busRead a s).2.sp = s.sp := by rw [busRead_state]
@[simp] theorem busRead_p (a : Addr) (s : State) : (busRead a s).2.p = s.p := by rw [busRead_state]
@[simp] theorem busRead_pc (a : Addr) (s : State) : (busRead a s).2.pc = s.pc := by rw [busRead_state]
@[simp] theorem busRead_cycles (a : Addr) (s : State) : (busRead a s).2.cycles = s.cycles := by rw [busRead_state]
@[simp] theorem busRead_pending (a : Addr) (s : State) : (busRead a s).2.pending = s.pending := by rw [busRead_state]
@[simp] theorem busRead_halted (a : Addr) (s : State) : (busRead a s).2.halted = s.halted := by rw [busRead_state]
@[simp] theorem busRead_nmiLatch (a : Addr) (s : State) : (busRead a s).2.nmiLatch = s.nmiLatch := by rw [busRead_state]
@[simp] theorem busRead_ram (a : Addr) (s : State) : (busRead a s).2.ram = s.ram := by rw [busRead_state]
@[simp] theorem busRead_vram (a : Addr) (s : State) : (busRead a s).2.vram = s.vram := by rw [busRead_state]
@[simp] theorem busRead_oam (a : Addr) (s : State) : (busRead a s).2.oam = s.oam := by rw [busRead_state]
@[simp] theorem busRead_pal (a : Addr) (s : State) : (busRead a s).2.pal = s.pal := by rw [busRead_state]
@[simp] theorem busRead_fb (a : Addr) (s : State) : (busRead a s).2.fb = s.fb := by rw [busRead_state]
@[simp] theorem busRead_frameReady (a : Addr) (s : State) : (busRead a s).2.frameReady = s.frameReady := by rw [busRead_state]
@[simp] theorem busRead_sram (a : Addr) (s : State) : (busRead a s).2.sram = s.sram := by rw [busRead_state]
@[simp] theorem busRead_master (a : Addr) (s : State) : (busRead a s).2.master = s.master := by rw [busRead_state]
@[simp] theorem busRead_cart (a : Addr) (s : State) : (busRead a s).2.cart = s.cart := by rw [busRead_state]
@[simp] theorem busRead_params (a : Addr) (s : State) : (busRead a s).2.params = s.params := by rw [busRead_state]
@[simp] theorem busRead_ppu_ctrl (a : Addr) (s : State) : (busRead a s).2.ppu.ctrl = s.ppu.ctrl := by rw [busRead_state]
@[simp] theorem busRead_ppu_mask (a : Addr) (s : State) : (busRead a s).2.ppu.mask = s.ppu.mask := by rw [busRead_state]
@[simp] theorem busRead_ppu_oamAddr (a : Addr) (s : State) : (busRead a s).2.ppu.oamAddr = s.ppu.oamAddr := by rw [busRead_state]
@[simp] theorem busRead_ppu_oamDma (a : Addr) (s : State) : (busRead a s).2.ppu.oamDma = s.ppu.oamDma := by rw [busRead_state]
@[simp] theorem busRead_ppu_xScroll (a : Addr) (s : State) : (busRead a s).2.ppu.xScroll = s.ppu.xScroll := by rw [busRead_state]
@[simp] theorem busRead_ppu_yScroll (a : Addr) (s : State) : (busRead a s).2.ppu.yScroll = s.ppu.yScroll := by rw [busRead_state]
@[simp] theorem busRead_ppu_cycle (a : Addr) (s : State) : (busRead a s).2.ppu.cycle = s.ppu.cycle := by rw [busRead_state]
@[simp] theorem busRead_ppu_scanline (a : Addr) (s : State) : (busRead a s).2.ppu.scanline = s.ppu.scanline := by rw [busRead_state]
@[simp] theorem busRead_ppu_stage (a : Addr) (s : State) : (busRead a s).2.ppu.stage = s.ppu.stage := by rw [busRead_state]
@[simp] theorem busRead_ppu_parity (a : Addr) (s : State) : (busRead a s).2.ppu.parity = s.ppu.parity := by rw [busRead_state]

/-- A RAM read: no side effect (R42). -/
theorem busRead_of_ram {a : Addr} (h : a.toNat < 0x2000) (s : State) :
    busRead a s = (s.ram.read (a.toNat % 0x800), s) := by
  simp [busRead, h]

/-- A read of the PPU window (R43). -/
theorem busRead_of_window {a : Addr} (h : 0x2000 ≤ a.toNat) (h' : a.toNat < 0x4000) (s : State) :
    busRead a s = ppuRegRead (a.toNat % 8) s := by
  simp [busRead, Nat.not_lt.2 h, h']

/-- A read of the SRAM window (R48, R50). -/
theorem busRead_of_sram {a : Addr} (h : 0x6000 ≤ a.toNat) (h' : a.toNat < 0x8000) (s : State) :
    busRead a s = readSram a s := by
  unfold busRead
  split_ifs <;> first | rfl | omega

/-- A PRG read: no side effect (R49). -/
theorem busRead_of_prg {a : Addr} (h : 0x8000 ≤ a.toNat) (s : State) : busRead a s = (readPrg a s.cart, s) := by
  have h1 : ¬ a.toNat < 0x2000 := by omega
  have h2 : ¬ a.toNat < 0x4000 := by omega
  have h3 : ¬ (a.toNat < 0x4014 ∨ a.toNat = 0x4015) := by omega
  have h4 : ¬ a.toNat = 0x4014 := by omega
  have h5 : ¬ a.toNat = 0x4016 := by omega
  have h6 : ¬ a.toNat = 0x4017 := by omega
  have h7 : ¬ a.toNat < 0x6000 := by omega
  have h8 : ¬ a.toNat < 0x8000 := by omega
  simp [busRead, h1, h2, h3, h4, h5, h6, h7, h8]

/-- Page-zero pointer reads change nothing (R42, R95, R96). -/
theorem busReadZp16_eq (z : Byte) (s : State) :
    busReadZp16 z s = (word (s.ram.read (z + 1).toNat) (s.ram.read z.toNat), s) := by
  have h1 := z.isLt
  have h2 := (z + 1).isLt
  have e1 : busRead (zext z) s = (s.ram.read z.toNat, s) := by
    rw [busRead_of_ram (by simp only [zext_toNat]; omega), zext_toNat, Nat.mod_eq_of_lt (by omega)]
  have e2 : busRead (zext (z + 1)) s = (s.ram.read (z + 1).toNat, s) := by
    rw [busRead_of_ram (by simp only [zext_toNat]; omega), zext_toNat, Nat.mod_eq_of_lt (by omega)]
  simp only [busReadZp16, busReadPair, e1, e2]

/-- A vector read changes nothing (R280). -/
theorem busRead16_of_prg {a : Addr} (h : 0x8000 ≤ a.toNat) (h' : 0x8000 ≤ (a + 1).toNat) (s : State) :
    busRead16 a s = (word (readPrg (a + 1) s.cart) (readPrg a s.cart), s) := by
  simp only [busRead16, busReadPair, busRead_of_prg h, busRead_of_prg h']

/-! ## The OAM-DMA transfer -/

/-- The copies change OAM and what reads change (R45). -/
theorem oamDmaCopies_state (page : Byte) (n : Nat) (s : State) :
    oamDmaCopies page n s = { s with
      ppu := { s.ppu with
        vblank := (oamDmaCopies page n s).ppu.vblank, w := (oamDmaCopies page n s).ppu.w,
        readBuf := (oamDmaCopies page n s).ppu.readBuf, vaddr := (oamDmaCopies page n s).ppu.vaddr }
      oam := (oamDmaCopies page n s).oam
      addrError := (oamDmaCopies page n s).addrError
      addrErrorCount := (oamDmaCopies page n s).addrErrorCount } := by
  induction n generalizing s with
  | zero => rfl
  | succ n ih =>
    simp only [oamDmaCopies]
    have h := ih ((busRead (word page (BitVec.ofNat 8 (255 - n))) s).2.setOam
      ((busRead (word page (BitVec.ofNat 8 (255 - n))) s).2.oam.write
        ((busRead (word page (BitVec.ofNat 8 (255 - n))) s).2.ppu.oamAddr + BitVec.ofNat 8 (255 - n)).toNat
        (busRead (word page (BitVec.ofNat 8 (255 - n))) s).1))
    generalize oamDmaCopies page n _ = u at h ⊢
    conv_lhs => rw [h]
    simp [State.setOam]

@[simp] theorem oamDmaCopies_a (b : Byte) (n : Nat) (s : State) : (oamDmaCopies b n s).a = s.a := by rw [oamDmaCopies_state]
@[simp] theorem oamDmaCopies_x (b : Byte) (n : Nat) (s : State) : (oamDmaCopies b n s).x = s.x := by rw [oamDmaCopies_state]
@[simp] theorem oamDmaCopies_y (b : Byte) (n : Nat) (s : State) : (oamDmaCopies b n s).y = s.y := by rw [oamDmaCopies_state]
@[simp] theorem oamDmaCopies_sp (b : Byte) (n : Nat) (s : State) : (oamDmaCopies b n s).sp = s.sp := by rw [oamDmaCopies_state]
@[simp] theorem oamDmaCopies_p (b : Byte) (n : Nat) (s : State) : (oamDmaCopies b n s).p = s.p := by rw [oamDmaCopies_state]
@[simp] theorem oamDmaCopies_pc (b : Byte) (n : Nat) (s : State) : (oamDmaCopies b n s).pc = s.pc := by rw [oamDmaCopies_state]
@[simp] theorem oamDmaCopies_cycles (b : Byte) (n : Nat) (s : State) : (oamDmaCopies b n s).cycles = s.cycles := by rw [oamDmaCopies_state]
@[simp] theorem oamDmaCopies_pending (b : Byte) (n : Nat) (s : State) : (oamDmaCopies b n s).pending = s.pending := by rw [oamDmaCopies_state]
@[simp] theorem oamDmaCopies_halted (b : Byte) (n : Nat) (s : State) : (oamDmaCopies b n s).halted = s.halted := by rw [oamDmaCopies_state]
@[simp] theorem oamDmaCopies_nmiLatch (b : Byte) (n : Nat) (s : State) : (oamDmaCopies b n s).nmiLatch = s.nmiLatch := by rw [oamDmaCopies_state]
@[simp] theorem oamDmaCopies_ram (b : Byte) (n : Nat) (s : State) : (oamDmaCopies b n s).ram = s.ram := by rw [oamDmaCopies_state]
@[simp] theorem oamDmaCopies_vram (b : Byte) (n : Nat) (s : State) : (oamDmaCopies b n s).vram = s.vram := by rw [oamDmaCopies_state]
@[simp] theorem oamDmaCopies_pal (b : Byte) (n : Nat) (s : State) : (oamDmaCopies b n s).pal = s.pal := by rw [oamDmaCopies_state]
@[simp] theorem oamDmaCopies_fb (b : Byte) (n : Nat) (s : State) : (oamDmaCopies b n s).fb = s.fb := by rw [oamDmaCopies_state]
@[simp] theorem oamDmaCopies_frameReady (b : Byte) (n : Nat) (s : State) : (oamDmaCopies b n s).frameReady = s.frameReady := by rw [oamDmaCopies_state]
@[simp] theorem oamDmaCopies_sram (b : Byte) (n : Nat) (s : State) : (oamDmaCopies b n s).sram = s.sram := by rw [oamDmaCopies_state]
@[simp] theorem oamDmaCopies_master (b : Byte) (n : Nat) (s : State) : (oamDmaCopies b n s).master = s.master := by rw [oamDmaCopies_state]
@[simp] theorem oamDmaCopies_cart (b : Byte) (n : Nat) (s : State) : (oamDmaCopies b n s).cart = s.cart := by rw [oamDmaCopies_state]
@[simp] theorem oamDmaCopies_params (b : Byte) (n : Nat) (s : State) : (oamDmaCopies b n s).params = s.params := by rw [oamDmaCopies_state]
@[simp] theorem oamDmaCopies_ppu_ctrl (b : Byte) (n : Nat) (s : State) : (oamDmaCopies b n s).ppu.ctrl = s.ppu.ctrl := by rw [oamDmaCopies_state]
@[simp] theorem oamDmaCopies_ppu_mask (b : Byte) (n : Nat) (s : State) : (oamDmaCopies b n s).ppu.mask = s.ppu.mask := by rw [oamDmaCopies_state]
@[simp] theorem oamDmaCopies_ppu_oamAddr (b : Byte) (n : Nat) (s : State) : (oamDmaCopies b n s).ppu.oamAddr = s.ppu.oamAddr := by rw [oamDmaCopies_state]
@[simp] theorem oamDmaCopies_ppu_oamDma (b : Byte) (n : Nat) (s : State) : (oamDmaCopies b n s).ppu.oamDma = s.ppu.oamDma := by rw [oamDmaCopies_state]
@[simp] theorem oamDmaCopies_ppu_xScroll (b : Byte) (n : Nat) (s : State) : (oamDmaCopies b n s).ppu.xScroll = s.ppu.xScroll := by rw [oamDmaCopies_state]
@[simp] theorem oamDmaCopies_ppu_yScroll (b : Byte) (n : Nat) (s : State) : (oamDmaCopies b n s).ppu.yScroll = s.ppu.yScroll := by rw [oamDmaCopies_state]
@[simp] theorem oamDmaCopies_ppu_cycle (b : Byte) (n : Nat) (s : State) : (oamDmaCopies b n s).ppu.cycle = s.ppu.cycle := by rw [oamDmaCopies_state]
@[simp] theorem oamDmaCopies_ppu_scanline (b : Byte) (n : Nat) (s : State) : (oamDmaCopies b n s).ppu.scanline = s.ppu.scanline := by rw [oamDmaCopies_state]
@[simp] theorem oamDmaCopies_ppu_stage (b : Byte) (n : Nat) (s : State) : (oamDmaCopies b n s).ppu.stage = s.ppu.stage := by rw [oamDmaCopies_state]
@[simp] theorem oamDmaCopies_ppu_parity (b : Byte) (n : Nat) (s : State) : (oamDmaCopies b n s).ppu.parity = s.ppu.parity := by rw [oamDmaCopies_state]

/-! ## Writes -/

/-- A write never touches a CPU register, the frame buffer, the latches, the tick count, the cartridge or the parameters, nor the
PPU's position; the cost can only grow (R41, R45). -/
theorem busWrite_state (a : Addr) (v : Byte) (s : State) :
    busWrite a v s = { s with
      pending := (busWrite a v s).pending
      addrError := (busWrite a v s).addrError
      addrErrorCount := (busWrite a v s).addrErrorCount
      ram := (busWrite a v s).ram
      ppu := { (busWrite a v s).ppu with
        cycle := s.ppu.cycle, scanline := s.ppu.scanline, stage := s.ppu.stage, parity := s.ppu.parity }
      vram := (busWrite a v s).vram
      oam := (busWrite a v s).oam
      pal := (busWrite a v s).pal
      sram := (busWrite a v s).sram } := by
  unfold busWrite
  split_ifs <;> try rfl
  · conv_lhs => rw [ppuRegWrite_state]
    conv_rhs => rw [ppuRegWrite_state]
  · unfold writeOamDma addCost
    dsimp only
    split_ifs
    · conv_lhs => rw [oamDmaCopies_state]
      conv_rhs => rw [oamDmaCopies_state]
      rfl
    · rfl
  · unfold writeSram reportAddrError
    split_ifs <;> rfl

@[simp] theorem busWrite_a (a : Addr) (v : Byte) (s : State) : (busWrite a v s).a = s.a := by rw [busWrite_state]
@[simp] theorem busWrite_x (a : Addr) (v : Byte) (s : State) : (busWrite a v s).x = s.x := by rw [busWrite_state]
@[simp] theorem busWrite_y (a : Addr) (v : Byte) (s : State) : (busWrite a v s).y = s.y := by rw [busWrite_state]
@[simp] theorem busWrite_sp (a : Addr) (v : Byte) (s : State) : (busWrite a v s).sp = s.sp := by rw [busWrite_state]
@[simp] theorem busWrite_p (a : Addr) (v : Byte) (s : State) : (busWrite a v s).p = s.p := by rw [busWrite_state]
@[simp] theorem busWrite_pc (a : Addr) (v : Byte) (s : State) : (busWrite a v s).pc = s.pc := by rw [busWrite_state]
@[simp] theorem busWrite_cycles (a : Addr) (v : Byte) (s : State) : (busWrite a v s).cycles = s.cycles := by rw [busWrite_state]
@[simp] theorem busWrite_halted (a : Addr) (v : Byte) (s : State) : (busWrite a v s).halted = s.halted := by rw [busWrite_state]
@[simp] theorem busWrite_nmiLatch (a : Addr) (v : Byte) (s : State) : (busWrite a v s).nmiLatch = s.nmiLatch := by rw [busWrite_state]
@[simp] theorem busWrite_fb (a : Addr) (v : Byte) (s : State) : (busWrite a v s).fb = s.fb := by rw [busWrite_state]
@[simp] theorem busWrite_frameReady (a : Addr) (v : Byte) (s : State) : (busWrite a v s).frameReady = s.frameReady := by rw [busWrite_state]
@[simp] theorem busWrite_master (a : Addr) (v : Byte) (s : State) : (busWrite a v s).master = s.master := by rw [busWrite_state]
@[simp] theorem busWrite_cart (a : Addr) (v : Byte) (s : State) : (busWrite a v s).cart = s.cart := by rw [busWrite_state]
@[simp] theorem busWrite_params (a : Addr) (v : Byte) (s : State) : (busWrite a v s).params = s.params := by rw [busWrite_state]
@[simp] theorem busWrite_ppu_cycle (a : Addr) (v : Byte) (s : State) : (busWrite a v s).ppu.cycle = s.ppu.cycle := by rw [busWrite_state]
@[simp] theorem busWrite_ppu_scanline (a : Addr) (v : Byte) (s : State) : (busWrite a v s).ppu.scanline = s.ppu.scanline := by rw [busWrite_state]
@[simp] theorem busWrite_ppu_stage (a : Addr) (v : Byte) (s : State) : (busWrite a v s).ppu.stage = s.ppu.stage := by rw [busWrite_state]
@[simp] theorem busWrite_ppu_parity (a : Addr) (v : Byte) (s : State) : (busWrite a v s).ppu.parity = s.ppu.parity := by rw [busWrite_state]

/-- A RAM write (R42). -/
theorem busWrite_of_ram {a : Addr} (h : a.toNat < 0x2000) (v : Byte) (s : State) :
    busWrite a v s = s.setRam (s.ram.write (a.toNat % 0x800) v) := by
  simp [busWrite, h]

/-- A write to the PPU window (R43). -/
theorem busWrite_of_window {a : Addr} (h : 0x2000 ≤ a.toNat) (h' : a.toNat < 0x4000) (v : Byte) (s : State) :
    busWrite a v s = ppuRegWrite (a.toNat % 8) v s := by
  simp [busWrite, Nat.not_lt.2 h, h']

/-- Of the register writes OAM data alone stores to OAM (R230). -/
theorem ppuRegWrite_oam (r : Nat) (v : Byte) (s : State) :
    (ppuRegWrite r v s).oam = if r = 4 then s.oam.write s.ppu.oamAddr.toNat v else s.oam := by
  unfold ppuRegWrite writeData ppuWrite writeScroll writeAddr
  split_ifs <;> first | rfl | omega

/-- Of the register writes the data port alone stores to VRAM (R234). -/
theorem ppuRegWrite_vram (r : Nat) (v : Byte) (s : State) :
    (ppuRegWrite r v s).vram =
      if r = 7 ∧ 0x2000 ≤ s.ppu.vaddr.toNat ∧ s.ppu.vaddr.toNat < 0x3F00 then
        s.vram.write (ntIndex s.cart.mirror s.ppu.vaddr.toNat) v
      else s.vram := by
  unfold ppuRegWrite writeData ppuWrite writeScroll writeAddr
  split_ifs <;> first | rfl | omega

/-- Of the register writes the data port alone stores to the palette (R234). -/
theorem ppuRegWrite_pal (r : Nat) (v : Byte) (s : State) :
    (ppuRegWrite r v s).pal =
      if r = 7 ∧ 0x3F00 ≤ s.ppu.vaddr.toNat then s.pal.write (palIndex s.ppu.vaddr.toNat) v else s.pal := by
  unfold ppuRegWrite writeData ppuWrite writeScroll writeAddr
  split_ifs <;> first | rfl | omega

/-- The cost a write adds: the OAM-DMA cost at 0x4014 with the transfer enabled, else nothing (R45). -/
theorem busWrite_pending (a : Addr) (v : Byte) (s : State) :
    (busWrite a v s).pending =
      s.pending + (if a.toNat = 0x4014 ∧ s.params.oamDmaEnable = true then 513 + s.cycles.toNat % 2 else 0) := by
  unfold busWrite
  by_cases h : a.toNat = 0x4014
  · by_cases hd : s.params.oamDmaEnable <;> simp [h, writeOamDma, addCost, hd]
  · simp only [h, false_and, if_false, Nat.add_zero]
    split_ifs <;> try rfl
    · rw [ppuRegWrite_state]
    · unfold writeSram reportAddrError
      split_ifs <;> rfl

/-- A write outside RAM leaves it, and inside changes one byte (R42). -/
theorem busWrite_ram (a : Addr) (v : Byte) (s : State) :
    (busWrite a v s).ram = if a.toNat < 0x2000 then s.ram.write (a.toNat % 0x800) v else s.ram := by
  unfold busWrite
  split_ifs <;> try rfl
  · rw [ppuRegWrite_state]
  · unfold writeOamDma addCost
    dsimp only
    split_ifs <;> simp
  · unfold writeSram reportAddrError
    split_ifs <;> rfl

/-- A write outside SRAM leaves it, and inside changes one byte (R48). -/
theorem busWrite_sram (a : Addr) (v : Byte) (s : State) :
    (busWrite a v s).sram =
      if 0x6000 ≤ a.toNat ∧ a.toNat < 0x8000 ∧ s.cart.hasSram = true then s.sram.write (a.toNat - 0x6000) v else s.sram := by
  unfold busWrite
  by_cases h : 0x6000 ≤ a.toNat ∧ a.toNat < 0x8000
  · rw [if_neg (by omega), if_neg (by omega), if_neg (by omega), if_neg (by omega), if_neg (by omega), if_neg (by omega),
      if_pos h.2]
    unfold writeSram reportAddrError
    cases hs : s.cart.hasSram <;> simp [h]
  · have hn : ¬ (0x6000 ≤ a.toNat ∧ a.toNat < 0x8000 ∧ s.cart.hasSram = true) := fun c => h ⟨c.1, c.2.1⟩
    simp only [hn, if_false]
    split_ifs <;> try rfl
    · rw [ppuRegWrite_state]
    · unfold writeOamDma addCost
      dsimp only
      split_ifs <;> simp
    · omega

/-- A write outside the PPU window leaves VRAM and the palette (R43). -/
theorem busWrite_vram_pal {a : Addr} (h : ¬ (0x2000 ≤ a.toNat ∧ a.toNat < 0x4000)) (v : Byte) (s : State) :
    (busWrite a v s).vram = s.vram ∧ (busWrite a v s).pal = s.pal := by
  unfold busWrite
  split_ifs <;> try exact ⟨rfl, rfl⟩
  · omega
  · unfold writeOamDma addCost
    dsimp only
    split_ifs <;> simp
  · unfold writeSram reportAddrError
    split_ifs <;> exact ⟨rfl, rfl⟩

/-- A write outside the PPU window leaves OAM, unless it starts a transfer (R45). -/
theorem busWrite_oam {a : Addr} (h : ¬ (0x2000 ≤ a.toNat ∧ a.toNat < 0x4000)) {s : State}
    (h' : a.toNat ≠ 0x4014 ∨ s.params.oamDmaEnable = false) (v : Byte) : (busWrite a v s).oam = s.oam := by
  unfold busWrite
  split_ifs <;> try rfl
  · omega
  · rename_i ha
    rcases h' with h' | h'
    · exact absurd ha h'
    · simp [writeOamDma, h']
  · unfold writeSram reportAddrError
    split_ifs <;> rfl

/-! ## Stack -/

/-- `Push` (R134): one RAM byte and S. -/
theorem push_eq (v : Byte) (s : State) :
    push v s = (s.setRam (s.ram.write (0x100 + s.sp.toNat) v)).setSp (s.sp - 1) := by
  have h := s.sp.isLt
  have h2 : (stackAddr s.sp).toNat < 0x2000 := by rw [stackAddr_toNat]; omega
  simp only [push, busWrite_of_ram h2, stackAddr_toNat, Nat.mod_eq_of_lt (show 0x100 + s.sp.toNat < 0x800 by omega),
    State.setRam_sp]

/-- `Pull` (R134): S and no side effect. -/
theorem pull_eq (s : State) : pull s = (s.ram.read (0x100 + (s.sp + 1).toNat), s.setSp (s.sp + 1)) := by
  have h := (s.sp + 1).isLt
  have h2 : (stackAddr (s.sp + 1)).toNat < 0x2000 := by rw [stackAddr_toNat]; omega
  simp only [pull, State.setSp_sp, busRead_of_ram h2, stackAddr_toNat,
    Nat.mod_eq_of_lt (show 0x100 + (s.sp + 1).toNat < 0x800 by omega), State.setSp_ram]

/-- Pushing a word: two RAM bytes, the high one at the higher address unless S wraps (R53, R134). -/
theorem pushWord_eq (w : Addr) (s : State) :
    pushWord w s = (s.setRam ((s.ram.write (0x100 + s.sp.toNat) (hi w)).write (0x100 + (s.sp - 1).toNat) (lo w))).setSp
      (s.sp - 2) := by
  have e : s.sp - 1 - 1 = s.sp - 2 := by rw [BitVec.sub_sub]; rfl
  simp only [pushWord, push_eq, State.setSp_ram, State.setRam_ram, State.setSp_sp, e]
  rfl

/-- Pulling a word. -/
theorem pullWord_eq (s : State) :
    pullWord s = (word (s.ram.read (0x100 + (s.sp + 2).toNat)) (s.ram.read (0x100 + (s.sp + 1).toNat)), s.setSp (s.sp + 2)) := by
  have e : s.sp + 1 + 1 = s.sp + 2 := by rw [BitVec.add_assoc]; rfl
  simp only [pullWord, pull_eq, State.setSp_ram, State.setSp_sp, e]
  rfl

/-- Entering an exception through a vector of the PRG window: three RAM bytes, S, I and pc (R180, R286). -/
theorem enterException_eq (ret : Addr) (status : Byte) {vector : Addr} (h : 0x8000 ≤ vector.toNat)
    (h' : 0x8000 ≤ (vector + 1).toNat) (s : State) :
    enterException ret status vector s =
      (((s.setRam (((s.ram.write (0x100 + s.sp.toNat) (hi ret)).write (0x100 + (s.sp - 1).toNat) (lo ret)).write
        (0x100 + (s.sp - 2).toNat) status)).setSp (s.sp - 3)).setP (withI s.p true)).setPc
        (word (readPrg (vector + 1) s.cart) (readPrg vector s.cart)) := by
  have e : s.sp - 2 - 1 = s.sp - 3 := by rw [BitVec.sub_sub]; rfl
  simp only [enterException, pushWord_eq, push_eq, State.setSp_ram, State.setRam_ram, State.setSp_sp, e,
    busRead16_of_prg h h']
  rfl

/-- Returning from an exception: P, S and pc (R179). -/
theorem returnFromException_eq (s : State) :
    returnFromException s = ((s.setP (pulledStatus (s.ram.read (0x100 + (s.sp + 1).toNat)))).setSp (s.sp + 3)).setPc
      (word (s.ram.read (0x100 + (s.sp + 3).toNat)) (s.ram.read (0x100 + (s.sp + 2).toNat))) := by
  have e1 : s.sp + 1 + 1 = s.sp + 2 := by rw [BitVec.add_assoc]; rfl
  have e2 : s.sp + 1 + 2 = s.sp + 3 := by rw [BitVec.add_assoc]; rfl
  simp only [returnFromException, pull_eq, pullWord_eq, State.setP_ram, State.setP_sp, State.setSp_ram, State.setSp_sp, e1, e2]
  rfl

end Sys2Proof.Machine
end

