-- ==== Sys2Proof/Laws/Flags.lean ====
section
/-! SUPPORT. What the flag writers leave alone, and their closed forms. -/

namespace Sys2Proof.Machine

/-- A flag write as one expression. -/
theorem withBit_eq (p mask : Byte) (v : Bool) : withBit p mask v = (p &&& ~~~mask) ||| (if v then mask else 0) := by
  cases v
  · simp [withBit]
  · ext i hi
    simp [withBit]
    cases p[i] <;> cases mask[i] <;> rfl

/-- A flag write leaves every other bit alone. -/
theorem withBit_and {mask q : Byte} (h : mask &&& q = 0) (p : Byte) (v : Bool) : withBit p mask v &&& q = p &&& q := by
  have hb : ∀ i (hi : i < 8), (mask[i] && q[i]) = false := fun i hi => by
    have := congrArg (fun b : Byte => b[i]) h
    simpa using this
  ext i hi
  have := hb i hi
  cases v <;> simp [withBit] <;> cases hp : p[i] <;> cases hm : mask[i] <;> cases hq : q[i] <;> simp_all

/-- `SetNZ` leaves the bits other than N and Z alone (spec/00_scope.md R8). -/
theorem nz_and {q : Byte} (h : (0x82 : Byte) &&& q = 0) (v p : Byte) : nz v p &&& q = p &&& q := by
  have h8 : (0x80 : Byte) &&& q = 0 := by
    rw [show (0x80 : Byte) = 0x80 &&& 0x82 from rfl, BitVec.and_assoc, h]; rfl
  have h2 : (0x02 : Byte) &&& q = 0 := by
    rw [show (0x02 : Byte) = 0x02 &&& 0x82 from rfl, BitVec.and_assoc, h]; rfl
  rw [nz, withN, withBit_and h8, withZ, withBit_and h2]

/-- `SetNZ` in closed form. -/
theorem nz_eq (v p : Byte) : nz v p = (p &&& 0x7D) ||| (if v = 0 then 0x02 else 0x00) ||| (v &&& 0x80) := by
  have hv : v &&& 0x80 = if v.getLsbD 7 then 0x80 else 0x00 := by
    ext i hi
    have : i = 0 ∨ i = 1 ∨ i = 2 ∨ i = 3 ∨ i = 4 ∨ i = 5 ∨ i = 6 ∨ i = 7 := by omega
    rcases this with rfl | rfl | rfl | rfl | rfl | rfl | rfl | rfl <;>
      cases h : v.getLsbD 7 <;> simp_all [BitVec.getLsbD_eq_getElem]
  rw [hv]
  simp only [nz, withN, withZ, withBit_eq, beq_iff_eq]
  generalize v.getLsbD 7 = n
  by_cases hz : v = 0 <;> cases n <;> simp only [hz, if_true, if_false, Bool.false_eq_true] <;>
    (ext i hi
     have : i = 0 ∨ i = 1 ∨ i = 2 ∨ i = 3 ∨ i = 4 ∨ i = 5 ∨ i = 6 ∨ i = 7 := by omega
     rcases this with rfl | rfl | rfl | rfl | rfl | rfl | rfl | rfl <;> simp)

/-- The status byte a pull gives always has bit 5 set and bit 4 clear (spec/10_state.md R14). -/
theorem pulledStatus_and (v : Byte) : pulledStatus v &&& 0x30 = 0x20 := by
  ext i hi
  have : i = 0 ∨ i = 1 ∨ i = 2 ∨ i = 3 ∨ i = 4 ∨ i = 5 ∨ i = 6 ∨ i = 7 := by omega
  rcases this with rfl | rfl | rfl | rfl | rfl | rfl | rfl | rfl <;> simp [pulledStatus]

end Sys2Proof.Machine
end

