-- ==== Sys2Proof/Laws/HostOps.lean ====
section
/-! SUPPORT. The reset state is a power-on, and its memories are canonical. -/

namespace Sys2Proof.Machine

/-- `State.reset` is power-on with the empty cartridge, the default parameters and zero memories (log 1, log 3). -/
theorem reset_eq_powerOn : State.reset = powerOn Cartridge.empty Params.default Inits.zero := by decide

/-- Every memory of the reset state has the canonical form. -/
theorem reset_memoriesOk : memoriesOk State.reset = true := by decide

/-- CPU reset reads the vector without a side effect and touches nothing but the CPU (spec/70_reset_and_hazards.md R310). -/
theorem cpuReset_eq (s : State) : cpuReset s = { s with
    pc := word (readPrg (resetVector + 1) s.cart) (readPrg resetVector s.cart), a := 0x00, x := 0x00, y := 0x00, p := 0x24,
    sp := 0xFD, cycles := 0, pending := 0 } := by
  have h := busRead16_of_prg (a := resetVector) (by decide) (by decide) s
  simp only [cpuReset, h]

end Sys2Proof.Machine
end

