-- ==== Sys2Proof/Laws/Operands.lean ====
section
/-! SUPPORT. What resolving an addressing mode and fetching an operand can do: nothing but the cost and, for the operand itself, what
one bus read does. -/

namespace Sys2Proof.Machine

/-- Resolving a mode changes nothing: its only reads are pointer reads in page zero (spec/30_encoding.md R95, R96). -/
@[simp] theorem resolve_st (m : MemOp) (s : State) : (resolve m s).st = s := by
  cases m <;> simp [resolve, indexed, busReadZp16_eq]

/-- Locating an operand charges the cost and changes nothing else (R81). -/
theorem locate_state (m : MemOp) (t : Timing) (s : State) :
    (locate m t s).2 = s.setPending
      (t.base - 1 + if t.pageCross && (resolve m (charge t.base s)).crossed then 1 else 0) := by
  simp only [locate, resolve_st]
  split_ifs <;> rfl

/-- The address a mode gives does not depend on the cost. -/
theorem resolve_charge_ea (m : MemOp) (base : Nat) (s : State) : (resolve m (charge base s)).ea = (resolve m s).ea := by
  cases m <;> simp [resolve, indexed, busReadZp16_eq, charge]

/-- Nor does the page-crossing report. -/
theorem resolve_charge_crossed (m : MemOp) (base : Nat) (s : State) :
    (resolve m (charge base s)).crossed = (resolve m s).crossed := by
  cases m <;> simp [resolve, indexed, busReadZp16_eq, charge]

@[simp] theorem locate_a (m : MemOp) (t : Timing) (s : State) : (locate m t s).2.a = s.a := by rw [locate_state]; rfl
@[simp] theorem locate_x (m : MemOp) (t : Timing) (s : State) : (locate m t s).2.x = s.x := by rw [locate_state]; rfl
@[simp] theorem locate_y (m : MemOp) (t : Timing) (s : State) : (locate m t s).2.y = s.y := by rw [locate_state]; rfl
@[simp] theorem locate_sp (m : MemOp) (t : Timing) (s : State) : (locate m t s).2.sp = s.sp := by rw [locate_state]; rfl
@[simp] theorem locate_p (m : MemOp) (t : Timing) (s : State) : (locate m t s).2.p = s.p := by rw [locate_state]; rfl
@[simp] theorem locate_pc (m : MemOp) (t : Timing) (s : State) : (locate m t s).2.pc = s.pc := by rw [locate_state]; rfl
@[simp] theorem locate_cycles (m : MemOp) (t : Timing) (s : State) : (locate m t s).2.cycles = s.cycles := by rw [locate_state]; rfl
@[simp] theorem locate_halted (m : MemOp) (t : Timing) (s : State) : (locate m t s).2.halted = s.halted := by rw [locate_state]; rfl
@[simp] theorem locate_nmiLatch (m : MemOp) (t : Timing) (s : State) : (locate m t s).2.nmiLatch = s.nmiLatch := by rw [locate_state]; rfl
@[simp] theorem locate_ram (m : MemOp) (t : Timing) (s : State) : (locate m t s).2.ram = s.ram := by rw [locate_state]; rfl
@[simp] theorem locate_vram (m : MemOp) (t : Timing) (s : State) : (locate m t s).2.vram = s.vram := by rw [locate_state]; rfl
@[simp] theorem locate_oam (m : MemOp) (t : Timing) (s : State) : (locate m t s).2.oam = s.oam := by rw [locate_state]; rfl
@[simp] theorem locate_pal (m : MemOp) (t : Timing) (s : State) : (locate m t s).2.pal = s.pal := by rw [locate_state]; rfl
@[simp] theorem locate_fb (m : MemOp) (t : Timing) (s : State) : (locate m t s).2.fb = s.fb := by rw [locate_state]; rfl
@[simp] theorem locate_frameReady (m : MemOp) (t : Timing) (s : State) : (locate m t s).2.frameReady = s.frameReady := by rw [locate_state]; rfl
@[simp] theorem locate_sram (m : MemOp) (t : Timing) (s : State) : (locate m t s).2.sram = s.sram := by rw [locate_state]; rfl
@[simp] theorem locate_master (m : MemOp) (t : Timing) (s : State) : (locate m t s).2.master = s.master := by rw [locate_state]; rfl
@[simp] theorem locate_cart (m : MemOp) (t : Timing) (s : State) : (locate m t s).2.cart = s.cart := by rw [locate_state]; rfl
@[simp] theorem locate_params (m : MemOp) (t : Timing) (s : State) : (locate m t s).2.params = s.params := by rw [locate_state]; rfl
@[simp] theorem locate_ppu (m : MemOp) (t : Timing) (s : State) : (locate m t s).2.ppu = s.ppu := by rw [locate_state]; rfl
@[simp] theorem locate_addrError (m : MemOp) (t : Timing) (s : State) : (locate m t s).2.addrError = s.addrError := by rw [locate_state]; rfl
@[simp] theorem locate_addrErrorCount (m : MemOp) (t : Timing) (s : State) : (locate m t s).2.addrErrorCount = s.addrErrorCount := by rw [locate_state]; rfl

/-- Fetching M changes what one bus read changes, and the cost. -/
theorem fetchM_state (o : Src) (t : Timing) (s : State) :
    (fetchM o t s).2 = { s with
      pending := (fetchM o t s).2.pending
      ppu := { s.ppu with
        vblank := (fetchM o t s).2.ppu.vblank, w := (fetchM o t s).2.ppu.w,
        readBuf := (fetchM o t s).2.ppu.readBuf, vaddr := (fetchM o t s).2.ppu.vaddr }
      addrError := (fetchM o t s).2.addrError
      addrErrorCount := (fetchM o t s).2.addrErrorCount } := by
  cases o with
  | imm b => rfl
  | mem m =>
    simp only [fetchM]
    rw [busRead_state, locate_state]
    rfl

@[simp] theorem fetchM_a (o : Src) (t : Timing) (s : State) : (fetchM o t s).2.a = s.a := by rw [fetchM_state]
@[simp] theorem fetchM_x (o : Src) (t : Timing) (s : State) : (fetchM o t s).2.x = s.x := by rw [fetchM_state]
@[simp] theorem fetchM_y (o : Src) (t : Timing) (s : State) : (fetchM o t s).2.y = s.y := by rw [fetchM_state]
@[simp] theorem fetchM_sp (o : Src) (t : Timing) (s : State) : (fetchM o t s).2.sp = s.sp := by rw [fetchM_state]
@[simp] theorem fetchM_p (o : Src) (t : Timing) (s : State) : (fetchM o t s).2.p = s.p := by rw [fetchM_state]
@[simp] theorem fetchM_pc (o : Src) (t : Timing) (s : State) : (fetchM o t s).2.pc = s.pc := by rw [fetchM_state]
@[simp] theorem fetchM_cycles (o : Src) (t : Timing) (s : State) : (fetchM o t s).2.cycles = s.cycles := by rw [fetchM_state]
@[simp] theorem fetchM_halted (o : Src) (t : Timing) (s : State) : (fetchM o t s).2.halted = s.halted := by rw [fetchM_state]
@[simp] theorem fetchM_nmiLatch (o : Src) (t : Timing) (s : State) : (fetchM o t s).2.nmiLatch = s.nmiLatch := by rw [fetchM_state]
@[simp] theorem fetchM_ram (o : Src) (t : Timing) (s : State) : (fetchM o t s).2.ram = s.ram := by rw [fetchM_state]
@[simp] theorem fetchM_vram (o : Src) (t : Timing) (s : State) : (fetchM o t s).2.vram = s.vram := by rw [fetchM_state]
@[simp] theorem fetchM_oam (o : Src) (t : Timing) (s : State) : (fetchM o t s).2.oam = s.oam := by rw [fetchM_state]
@[simp] theorem fetchM_pal (o : Src) (t : Timing) (s : State) : (fetchM o t s).2.pal = s.pal := by rw [fetchM_state]
@[simp] theorem fetchM_fb (o : Src) (t : Timing) (s : State) : (fetchM o t s).2.fb = s.fb := by rw [fetchM_state]
@[simp] theorem fetchM_frameReady (o : Src) (t : Timing) (s : State) : (fetchM o t s).2.frameReady = s.frameReady := by rw [fetchM_state]
@[simp] theorem fetchM_sram (o : Src) (t : Timing) (s : State) : (fetchM o t s).2.sram = s.sram := by rw [fetchM_state]
@[simp] theorem fetchM_master (o : Src) (t : Timing) (s : State) : (fetchM o t s).2.master = s.master := by rw [fetchM_state]
@[simp] theorem fetchM_cart (o : Src) (t : Timing) (s : State) : (fetchM o t s).2.cart = s.cart := by rw [fetchM_state]
@[simp] theorem fetchM_params (o : Src) (t : Timing) (s : State) : (fetchM o t s).2.params = s.params := by rw [fetchM_state]
@[simp] theorem fetchM_ppu_ctrl (o : Src) (t : Timing) (s : State) : (fetchM o t s).2.ppu.ctrl = s.ppu.ctrl := by
  rw [fetchM_state]
@[simp] theorem fetchM_ppu_mask (o : Src) (t : Timing) (s : State) : (fetchM o t s).2.ppu.mask = s.ppu.mask := by
  rw [fetchM_state]
@[simp] theorem fetchM_ppu_oamAddr (o : Src) (t : Timing) (s : State) : (fetchM o t s).2.ppu.oamAddr = s.ppu.oamAddr := by
  rw [fetchM_state]
@[simp] theorem fetchM_ppu_oamDma (o : Src) (t : Timing) (s : State) : (fetchM o t s).2.ppu.oamDma = s.ppu.oamDma := by
  rw [fetchM_state]
@[simp] theorem fetchM_ppu_xScroll (o : Src) (t : Timing) (s : State) : (fetchM o t s).2.ppu.xScroll = s.ppu.xScroll := by
  rw [fetchM_state]
@[simp] theorem fetchM_ppu_yScroll (o : Src) (t : Timing) (s : State) : (fetchM o t s).2.ppu.yScroll = s.ppu.yScroll := by
  rw [fetchM_state]
@[simp] theorem fetchM_ppu_cycle (o : Src) (t : Timing) (s : State) : (fetchM o t s).2.ppu.cycle = s.ppu.cycle := by
  rw [fetchM_state]
@[simp] theorem fetchM_ppu_scanline (o : Src) (t : Timing) (s : State) : (fetchM o t s).2.ppu.scanline = s.ppu.scanline := by
  rw [fetchM_state]
@[simp] theorem fetchM_ppu_stage (o : Src) (t : Timing) (s : State) : (fetchM o t s).2.ppu.stage = s.ppu.stage := by
  rw [fetchM_state]
@[simp] theorem fetchM_ppu_parity (o : Src) (t : Timing) (s : State) : (fetchM o t s).2.ppu.parity = s.ppu.parity := by
  rw [fetchM_state]

/-- The cost of fetching M. -/
theorem fetchM_pending (o : Src) (t : Timing) (s : State) :
    (fetchM o t s).2.pending = match o with
      | .imm _ => t.base - 1
      | .mem m => (locate m t s).2.pending := by
  cases o <;> simp [fetchM, charge]

end Sys2Proof.Machine
end

