-- ==== Sys2Proof/Laws/PpuStep.lean ====
section
/-! SUPPORT. What a PPU cycle can change: its position, the vblank flag, the parity, one frame-buffer cell and `frame_ready`. -/

namespace Sys2Proof.Machine

/-- The drawing part of a Rendering cycle touches the frame buffer only (spec/50_ppu.md R250). -/
theorem emitPixel_state (px sy : Nat) (s : State) : emitPixel px sy s = s.setFb (s.fb.write (sy * 256 + px) (pixelByte px sy s)) :=
  rfl

/-- One cycle of PreRendering (R241). -/
theorem stepPreRendering_state (s : State) : ∃ v c l g, stepPreRendering s =
    s.setPpu { s.ppu with vblank := v, cycle := c, scanline := l, stage := g } := by
  simp only [stepPreRendering]
  split_ifs <;> exact ⟨_, _, _, _, rfl⟩

/-- One cycle of Rendering (R242). -/
theorem stepRendering_state (s : State) : ∃ f r c l g, stepRendering s =
    ((s.setFb f).setFrameReady r).setPpu { s.ppu with cycle := c, scanline := l, stage := g } := by
  obtain ⟨f, hf⟩ : ∃ f, (if 1 ≤ s.ppu.cycle ∧ s.ppu.cycle ≤ 256 then emitPixel (s.ppu.cycle - 1) s.ppu.scanline s else s) =
      s.setFb f := by
    split_ifs
    · exact ⟨_, rfl⟩
    · exact ⟨s.fb, rfl⟩
  simp only [stepRendering, hf]
  split_ifs
  · exact ⟨f, true, _, _, _, rfl⟩
  · exact ⟨f, s.frameReady, _, _, s.ppu.stage, rfl⟩
  · exact ⟨f, s.frameReady, _, s.ppu.scanline, s.ppu.stage, rfl⟩

/-- One cycle of PostRendering (R243). -/
theorem stepPostRendering_state (s : State) : ∃ v c l g p, stepPostRendering s =
    s.setPpu { s.ppu with vblank := v, cycle := c, scanline := l, stage := g, parity := p } := by
  simp only [stepPostRendering]
  split_ifs <;> exact ⟨_, _, _, _, _, rfl⟩

/-- A PPU cycle (R240). -/
theorem ppuStep_state (s : State) : ∃ f r v c l g p, (ppuStep s).2 = ((s.setFb f).setFrameReady r).setPpu
    { s.ppu with vblank := v, cycle := c, scanline := l, stage := g, parity := p } := by
  unfold ppuStep
  split
  · obtain ⟨v, c, l, g, h⟩ := stepPreRendering_state s
    exact ⟨s.fb, s.frameReady, v, c, l, g, s.ppu.parity, h⟩
  · obtain ⟨f, r, c, l, g, h⟩ := stepRendering_state s
    exact ⟨f, r, s.ppu.vblank, c, l, g, s.ppu.parity, h⟩
  · obtain ⟨v, c, l, g, p, h⟩ := stepPostRendering_state s
    exact ⟨s.fb, s.frameReady, v, c, l, g, p, h⟩

/-- The edge a PPU cycle reports (R246). -/
theorem ppuStep_edge (s : State) :
    (ppuStep s).1 = (s.ppu.stage == .postRendering && (s.ppu.scanline == 241 && s.ppu.cycle == 1)) := by
  unfold ppuStep
  cases s.ppu.stage <;> rfl

/-- The frame buffer after a PPU cycle: one pixel in a Rendering step of cycles 1 to 256, nothing otherwise (R242, R250). -/
theorem ppuStep_fb (s : State) :
    (ppuStep s).2.fb =
      if s.ppu.stage = .rendering ∧ 1 ≤ s.ppu.cycle ∧ s.ppu.cycle ≤ 256 then
        s.fb.write (s.ppu.scanline * 256 + (s.ppu.cycle - 1)) (pixelByte (s.ppu.cycle - 1) s.ppu.scanline s)
      else s.fb := by
  cases hs : s.ppu.stage with
  | preRendering => simp only [ppuStep, hs, stepPreRendering]; split_ifs <;> first | rfl | simp_all
  | rendering =>
    simp only [ppuStep, hs, stepRendering, true_and]
    by_cases hc : 1 ≤ s.ppu.cycle ∧ s.ppu.cycle ≤ 256
    · simp only [hc, and_self, if_true]; split_ifs <;> rfl
    · simp only [hc, if_false]; split_ifs <;> rfl
  | postRendering => simp only [ppuStep, hs, stepPostRendering]; split_ifs <;> first | rfl | simp_all

end Sys2Proof.Machine
end

