-- ==== Sys2Proof/Laws/Keeps.lean ====
section
/-! SUPPORT. What no instruction can touch, and the parts of the invariant every shared operation keeps. The relation `Keeps` says
both at once; it composes, and each shared operation of the machine has its lemma. -/

namespace Sys2Proof.Machine

/-- `t` differs from `s` in nothing an instruction may not touch, and keeps the memories canonical and the scroll in range. -/
structure Keeps (s t : State) : Prop where
  cycles : t.cycles = s.cycles
  halted : t.halted = s.halted
  nmiLatch : t.nmiLatch = s.nmiLatch
  fb : t.fb = s.fb
  frameReady : t.frameReady = s.frameReady
  master : t.master = s.master
  cart : t.cart = s.cart
  params : t.params = s.params
  cycle : t.ppu.cycle = s.ppu.cycle
  scanline : t.ppu.scanline = s.ppu.scanline
  stage : t.ppu.stage = s.ppu.stage
  parity : t.ppu.parity = s.ppu.parity
  scroll : scrollOk s.ppu = true → scrollOk t.ppu = true
  memories : memoriesOk s = true → memoriesOk t = true

theorem Keeps.refl (s : State) : Keeps s s :=
  ⟨rfl, rfl, rfl, rfl, rfl, rfl, rfl, rfl, rfl, rfl, rfl, rfl, id, id⟩

theorem Keeps.trans {s t u : State} (h : Keeps s t) (k : Keeps t u) : Keeps s u where
  cycles := k.cycles.trans h.cycles
  halted := k.halted.trans h.halted
  nmiLatch := k.nmiLatch.trans h.nmiLatch
  fb := k.fb.trans h.fb
  frameReady := k.frameReady.trans h.frameReady
  master := k.master.trans h.master
  cart := k.cart.trans h.cart
  params := k.params.trans h.params
  cycle := k.cycle.trans h.cycle
  scanline := k.scanline.trans h.scanline
  stage := k.stage.trans h.stage
  parity := k.parity.trans h.parity
  scroll := fun x => k.scroll (h.scroll x)
  memories := fun x => k.memories (h.memories x)

/-- The launch premises (R34); the data port's address is in range by its type. -/
theorem launchOk_iff (s : State) :
    launchOk s = true ↔
      statusOk s = true ∧ s.halted = none ∧ timingOk s.ppu = true ∧ scrollOk s.ppu = true ∧ pendingOk s = true := by
  have h : s.ppu.vaddr.toNat < 0x4000 := s.ppu.vaddr.isLt
  simp [launchOk, h, and_assoc]

/-! ## Canonical memories -/

theorem memoryOk_write {m : Memory} {n i : Nat} (v : Byte) (hi : i < n) (h : memoryOk m n = true) :
    memoryOk (m.write i v) n = true := by
  simp only [memoryOk, Bool.and_eq_true] at h ⊢
  exact ⟨Memory.wf_write i v h.1, Memory.within_write v hi h.2⟩

theorem ntIndex_lt (m : Mirror) (a : Nat) : ntIndex m a < 2048 := by
  cases m <;> simp only [ntIndex] <;> omega

theorem palIndex_lt (a : Nat) : palIndex a < 32 := by
  unfold palIndex
  dsimp only
  split_ifs <;> omega

/-! ## Register writes and simple updates -/

theorem keeps_setReg (r : Reg) (v : Byte) (s : State) : Keeps s (setReg r v s) := by
  cases r <;> exact ⟨rfl, rfl, rfl, rfl, rfl, rfl, rfl, rfl, rfl, rfl, rfl, rfl, id, id⟩

theorem keeps_setA (v : Byte) (s : State) : Keeps s (s.setA v) := keeps_setReg .a v s
theorem keeps_setSp (v : Byte) (s : State) : Keeps s (s.setSp v) := keeps_setReg .s v s
theorem keeps_setP (v : Byte) (s : State) : Keeps s (s.setP v) :=
  ⟨rfl, rfl, rfl, rfl, rfl, rfl, rfl, rfl, rfl, rfl, rfl, rfl, id, id⟩
theorem keeps_setPc (v : Addr) (s : State) : Keeps s (s.setPc v) :=
  ⟨rfl, rfl, rfl, rfl, rfl, rfl, rfl, rfl, rfl, rfl, rfl, rfl, id, id⟩
theorem keeps_setPending (v : Nat) (s : State) : Keeps s (s.setPending v) :=
  ⟨rfl, rfl, rfl, rfl, rfl, rfl, rfl, rfl, rfl, rfl, rfl, rfl, id, id⟩
theorem keeps_setNZ (v : Byte) (s : State) : Keeps s (setNZ v s) := keeps_setP _ s
theorem keeps_addCost (n : Nat) (s : State) : Keeps s (addCost n s) := keeps_setPending _ s
theorem keeps_charge (n : Nat) (s : State) : Keeps s (charge n s) := keeps_setPending _ s

/-! ## The bus -/

theorem keeps_busRead (a : Addr) (s : State) : Keeps s (busRead a s).2 where
  cycles := by simp
  halted := by simp
  nmiLatch := by simp
  fb := by simp
  frameReady := by simp
  master := by simp
  cart := by simp
  params := by simp
  cycle := by simp
  scanline := by simp
  stage := by simp
  parity := by simp
  scroll := by simp [scrollOk]
  memories := by simp [memoriesOk]

theorem keeps_setOam {s : State} {i : Nat} (v : Byte) (h : i < 256) : Keeps s (s.setOam (s.oam.write i v)) := by
  refine ⟨rfl, rfl, rfl, rfl, rfl, rfl, rfl, rfl, rfl, rfl, rfl, rfl, id, fun x => ?_⟩
  simp only [memoriesOk, Bool.and_eq_true] at x ⊢
  exact ⟨⟨⟨⟨⟨x.1.1.1.1.1, x.1.1.1.1.2⟩, memoryOk_write v h x.1.1.1.2⟩, x.1.1.2⟩, x.1.2⟩, x.2⟩

theorem keeps_oamDmaCopies (b : Byte) (n : Nat) (s : State) : Keeps s (oamDmaCopies b n s) := by
  induction n generalizing s with
  | zero => exact Keeps.refl s
  | succ n ih => exact ((keeps_busRead _ s).trans (keeps_setOam _ (BitVec.isLt _))).trans (ih _)

/-- A register update of the PPU that leaves its position and scroll alone. -/
theorem keeps_setPpu {s : State} {u : Ppu} (h1 : u.cycle = s.ppu.cycle) (h2 : u.scanline = s.ppu.scanline)
    (h3 : u.stage = s.ppu.stage) (h4 : u.parity = s.ppu.parity) (h5 : scrollOk s.ppu = true → scrollOk u = true) :
    Keeps s (s.setPpu u) :=
  ⟨rfl, rfl, rfl, rfl, rfl, rfl, rfl, rfl, h1, h2, h3, h4, h5, id⟩

theorem keeps_writeOamDma (b : Byte) (s : State) : Keeps s (writeOamDma b s) := by
  have h : Keeps s (s.setPpu { s.ppu with oamDma := b }) := keeps_setPpu rfl rfl rfl rfl id
  unfold writeOamDma
  dsimp only
  split_ifs
  · exact (h.trans (keeps_oamDmaCopies b 256 _)).trans (keeps_addCost _ _)
  · exact h

theorem keeps_writeScroll (b : Byte) (s : State) : Keeps s (writeScroll b s) := by
  have hb := b.isLt
  unfold writeScroll
  split_ifs
  all_goals
    refine keeps_setPpu rfl rfl rfl rfl fun h => ?_
    simp only [scrollOk, Bool.and_eq_true, decide_eq_true_eq] at h ⊢
    omega

theorem keeps_ppuWrite (a : PAddr) (b : Byte) (s : State) : Keeps s (ppuWrite a b s) := by
  unfold ppuWrite
  split_ifs
  · exact Keeps.refl s
  · refine ⟨rfl, rfl, rfl, rfl, rfl, rfl, rfl, rfl, rfl, rfl, rfl, rfl, id, fun x => ?_⟩
    simp only [memoriesOk, Bool.and_eq_true] at x ⊢
    exact ⟨⟨⟨⟨⟨x.1.1.1.1.1, memoryOk_write b (ntIndex_lt _ _) x.1.1.1.1.2⟩, x.1.1.1.2⟩, x.1.1.2⟩, x.1.2⟩, x.2⟩
  · refine ⟨rfl, rfl, rfl, rfl, rfl, rfl, rfl, rfl, rfl, rfl, rfl, rfl, id, fun x => ?_⟩
    simp only [memoriesOk, Bool.and_eq_true] at x ⊢
    exact ⟨⟨⟨⟨⟨x.1.1.1.1.1, x.1.1.1.1.2⟩, x.1.1.1.2⟩, memoryOk_write b (palIndex_lt _) x.1.1.2⟩, x.1.2⟩, x.2⟩

theorem keeps_ppuRegWrite (r : Nat) (b : Byte) (s : State) : Keeps s (ppuRegWrite r b s) := by
  unfold ppuRegWrite
  split_ifs
  · exact keeps_setPpu rfl rfl rfl rfl id
  · exact keeps_setPpu rfl rfl rfl rfl id
  · exact keeps_setPpu rfl rfl rfl rfl id
  · exact (keeps_setOam b (BitVec.isLt _)).trans (keeps_setPpu rfl rfl rfl rfl id)
  · exact keeps_writeScroll b s
  · unfold writeAddr
    split_ifs <;> exact keeps_setPpu rfl rfl rfl rfl id
  · exact (keeps_ppuWrite s.ppu.vaddr b s).trans (keeps_setPpu rfl rfl rfl rfl id)
  · exact Keeps.refl s

theorem keeps_writeSram {a : Addr} (h : a.toNat < 0x8000) (b : Byte) (s : State) : Keeps s (writeSram a b s) := by
  unfold writeSram
  split_ifs with hs
  · refine ⟨rfl, rfl, rfl, rfl, rfl, rfl, rfl, rfl, rfl, rfl, rfl, rfl, id, fun x => ?_⟩
    simp only [memoriesOk, Bool.and_eq_true, State.setSram_sram, State.setSram_cart, hs, if_true] at x ⊢
    exact ⟨x.1, memoryOk_write b (by omega) x.2⟩
  · exact ⟨rfl, rfl, rfl, rfl, rfl, rfl, rfl, rfl, rfl, rfl, rfl, rfl, id, id⟩

theorem keeps_busWrite (a : Addr) (b : Byte) (s : State) : Keeps s (busWrite a b s) := by
  unfold busWrite
  split_ifs
  · refine ⟨rfl, rfl, rfl, rfl, rfl, rfl, rfl, rfl, rfl, rfl, rfl, rfl, id, fun x => ?_⟩
    simp only [memoriesOk, Bool.and_eq_true] at x ⊢
    exact ⟨⟨⟨⟨⟨memoryOk_write b (Nat.mod_lt _ (by decide)) x.1.1.1.1.1, x.1.1.1.1.2⟩, x.1.1.1.2⟩, x.1.1.2⟩, x.1.2⟩, x.2⟩
  · exact keeps_ppuRegWrite _ b s
  · exact Keeps.refl s
  · exact keeps_writeOamDma b s
  · exact Keeps.refl s
  · exact Keeps.refl s
  · exact keeps_writeSram ‹_› b s
  · exact Keeps.refl s

/-! ## Pairs, the stack, exceptions, operands -/

theorem keeps_busReadPair (l h : Addr) (s : State) : Keeps s (busReadPair l h s).2 :=
  (keeps_busRead l s).trans (keeps_busRead h _)

theorem keeps_push (v : Byte) (s : State) : Keeps s (push v s) := (keeps_busWrite _ v s).trans (keeps_setSp _ _)

theorem keeps_pull (s : State) : Keeps s (pull s).2 := (keeps_setSp _ s).trans (keeps_busRead _ _)

theorem keeps_pushWord (w : Addr) (s : State) : Keeps s (pushWord w s) := (keeps_push _ s).trans (keeps_push _ _)

theorem keeps_pullWord (s : State) : Keeps s (pullWord s).2 := (keeps_pull s).trans (keeps_pull _)

theorem keeps_enterException (ret : Addr) (status : Byte) (vector : Addr) (s : State) :
    Keeps s (enterException ret status vector s) :=
  ((((keeps_pushWord ret s).trans (keeps_push status _)).trans (keeps_setP _ _)).trans (keeps_busReadPair _ _ _)).trans
    (keeps_setPc _ _)

theorem keeps_returnFromException (s : State) : Keeps s (returnFromException s) :=
  (((keeps_pull s).trans (keeps_setP _ _)).trans (keeps_pullWord _)).trans (keeps_setPc _ _)

theorem keeps_locate (m : MemOp) (t : Timing) (s : State) : Keeps s (locate m t s).2 := by
  rw [locate_state]
  exact keeps_setPending _ s

theorem keeps_fetchM (o : Src) (t : Timing) (s : State) : Keeps s (fetchM o t s).2 := by
  cases o with
  | imm b => exact keeps_charge _ s
  | mem m => exact (keeps_locate m t s).trans (keeps_busRead _ _)

/-! ## The instruction families' shared operations -/

theorem keeps_loadReg (r : Reg) (o : Src) (t : Timing) (s : State) : Keeps s (loadReg r o t s) :=
  ((keeps_fetchM o t s).trans (keeps_setReg _ _ _)).trans (keeps_setNZ _ _)

theorem keeps_storeReg (r : Reg) (m : MemOp) (t : Timing) (s : State) : Keeps s (storeReg r m t s) :=
  (keeps_locate m t s).trans (keeps_busWrite _ _ _)

theorem keeps_transfer (r d : Reg) (n : Nat) (s : State) : Keeps s (transfer r d n s) :=
  ((keeps_charge n s).trans (keeps_setReg _ _ _)).trans (keeps_setNZ _ _)

theorem keeps_transferSp (n : Nat) (s : State) : Keeps s (transferSp n s) := (keeps_charge n s).trans (keeps_setSp _ _)

theorem keeps_pushByte (v : Byte) (n : Nat) (s : State) : Keeps s (pushByte v n s) :=
  (keeps_charge n s).trans (keeps_push _ _)

theorem keeps_pullAcc (n : Nat) (s : State) : Keeps s (pullAcc n s) :=
  (((keeps_charge n s).trans (keeps_pull _)).trans (keeps_setA _ _)).trans (keeps_setNZ _ _)

theorem keeps_pullStatus (n : Nat) (s : State) : Keeps s (pullStatus n s) :=
  ((keeps_charge n s).trans (keeps_pull _)).trans (keeps_setP _ _)

theorem keeps_addToAcc (m : Byte) (s : State) : Keeps s (addToAcc m s) := (keeps_setP _ s).trans (keeps_setA _ _)

theorem keeps_addWithCarry (o : Src) (t : Timing) (s : State) : Keeps s (addWithCarry o t s) :=
  (keeps_fetchM o t s).trans (keeps_addToAcc _ _)

theorem keeps_subWithBorrow (o : Src) (t : Timing) (s : State) : Keeps s (subWithBorrow o t s) :=
  (keeps_fetchM o t s).trans (keeps_addToAcc _ _)

theorem keeps_logic (f : Byte → Byte → Byte) (o : Src) (t : Timing) (s : State) : Keeps s (logic f o t s) :=
  ((keeps_fetchM o t s).trans (keeps_setA _ _)).trans (keeps_setNZ _ _)

theorem keeps_compareReg (r : Reg) (o : Src) (t : Timing) (s : State) : Keeps s (compareReg r o t s) :=
  (keeps_fetchM o t s).trans (keeps_setP _ _)

theorem keeps_bitTest (o : Src) (t : Timing) (s : State) : Keeps s (bitTest o t s) :=
  (keeps_fetchM o t s).trans (keeps_setP _ _)

theorem keeps_modifyMem (f : Byte → Byte) (m : MemOp) (t : Timing) (s : State) : Keeps s (modifyMem f m t s) :=
  (((keeps_locate m t s).trans (keeps_busRead _ _)).trans (keeps_busWrite _ _ _)).trans (keeps_setNZ _ _)

theorem keeps_modifyReg (f : Byte → Byte) (r : Reg) (n : Nat) (s : State) : Keeps s (modifyReg f r n s) :=
  ((keeps_charge n s).trans (keeps_setReg _ _ _)).trans (keeps_setNZ _ _)

theorem keeps_shiftMem (f : Byte → Bool → Byte × Bool) (m : MemOp) (t : Timing) (s : State) : Keeps s (shiftMem f m t s) :=
  (((keeps_locate m t s).trans (keeps_busRead _ _)).trans (keeps_busWrite _ _ _)).trans (keeps_setP _ _)

theorem keeps_shiftAcc (f : Byte → Bool → Byte × Bool) (n : Nat) (s : State) : Keeps s (shiftAcc f n s) :=
  ((keeps_charge n s).trans (keeps_setA _ _)).trans (keeps_setP _ _)

theorem keeps_jump (a : Addr) (n : Nat) (s : State) : Keeps s (jump a n s) := (keeps_charge n s).trans (keeps_setPc _ _)

theorem keeps_jumpIndirect (p : Addr) (n : Nat) (s : State) : Keeps s (jumpIndirect p n s) :=
  ((keeps_charge n s).trans (keeps_busReadPair _ _ _)).trans (keeps_setPc _ _)

theorem keeps_callSubroutine (a : Addr) (n : Nat) (s : State) : Keeps s (callSubroutine a n s) :=
  ((keeps_charge n s).trans (keeps_pushWord _ _)).trans (keeps_setPc _ _)

theorem keeps_returnFromSubroutine (n : Nat) (s : State) : Keeps s (returnFromSubroutine n s) :=
  ((keeps_charge n s).trans (keeps_pullWord _)).trans (keeps_setPc _ _)

theorem keeps_branch (c : Bool) (off : Byte) (n : Nat) (s : State) : Keeps s (branch c off n s) := by
  cases c
  · exact keeps_charge n s
  · exact ((keeps_charge n s).trans (keeps_addCost _ _)).trans (keeps_setPc _ _)

/-! ## Every instruction -/

/-- What an outcome keeps: it is a next state that keeps it. -/
def OutcomeKeeps (s : State) : Host.Outcome State Fault Refusal → Prop
  | .next t => Keeps s t
  | .fault _ => False
  | .refused _ => False

theorem keeps_chargedReturn (n : Nat) (s : State) : Keeps s (returnFromException (charge n s)) :=
  (keeps_charge n s).trans (keeps_returnFromException _)

theorem keeps_chargedEntry (ret : Addr) (status : Byte) (vector : Addr) (n : Nat) (s : State) :
    Keeps s (enterException ret status vector (charge n s)) :=
  (keeps_charge n s).trans (keeps_enterException _ _ _ _)

theorem keeps_chargedSetP (v : Byte) (n : Nat) (s : State) : Keeps s ((charge n s).setP v) :=
  (keeps_charge n s).trans (keeps_setP _ _)

theorem exec_keeps (i : Instr) (s : State) : OutcomeKeeps s (exec i s) := by
  cases i <;> change Keeps s _ <;>
    simp only [keeps_loadReg, keeps_storeReg, keeps_transfer, keeps_transferSp, keeps_pushByte, keeps_pullAcc,
      keeps_pullStatus, keeps_addWithCarry, keeps_subWithBorrow, keeps_logic, keeps_compareReg, keeps_bitTest,
      keeps_modifyMem, keeps_modifyReg, keeps_shiftMem, keeps_shiftAcc, keeps_jump, keeps_jumpIndirect,
      keeps_callSubroutine, keeps_returnFromSubroutine, keeps_chargedReturn, keeps_chargedEntry, keeps_branch,
      keeps_chargedSetP, keeps_charge]

/-- Every instruction answers a next state that keeps all of that. -/
theorem exec_next (i : Instr) (s : State) : ∃ t, exec i s = .next t ∧ Keeps s t := by
  have h := exec_keeps i s
  revert h
  generalize exec i s = o
  cases o with
  | next t => exact fun h => ⟨t, rfl, h⟩
  | fault r => exact False.elim
  | refused r => exact False.elim

/-- Fetching bytes changes what bus reads change. -/
theorem keeps_fetchBytes (n : Nat) (a : Addr) (s : State) : Keeps s (fetchBytes n a s).2 := by
  induction n generalizing a s with
  | zero => exact Keeps.refl s
  | succ n ih => exact (keeps_busRead a s).trans (ih _ _)

/-- Whatever a fetch finds. -/
theorem keeps_fetch (s : State) :
    (∃ op t, fetch s = .illegal op t ∧ Keeps s t) ∨ (∃ i t, fetch s = .instr i t ∧ Keeps s t) := by
  unfold fetch
  dsimp only
  split
  · exact .inl ⟨_, _, rfl, keeps_busRead _ s⟩
  · split
    · exact .inr ⟨_, _, rfl, ((keeps_busRead _ s).trans (keeps_fetchBytes _ _ _)).trans (keeps_setPc _ _)⟩
    · exact .inl ⟨_, _, rfl, keeps_busRead _ s⟩

end Sys2Proof.Machine
end

