-- ==== Sys2Proof/Laws/PerInstr.lean ====
section
/-! SUPPORT. The per-instruction family RowWellFormed (LAWS.json): every row of the opcode table, with every operand, is a
well-formed instruction whose encoding has the length of its addressing mode. -/

namespace Sys2Proof.Laws.RowWellFormed

/-- The instruction is well formed and its encoding is as long as its mode says (spec/30_encoding.md R82, R84, R99). -/
def Statement (i : Instr) : Prop := i.wf = true ∧ (encode i).length = i.length

theorem ldaIndx (b : Byte) : Statement (.ldaIndx b) := ⟨rfl, rfl⟩
theorem ldaZp (b : Byte) : Statement (.ldaZp b) := ⟨rfl, rfl⟩
theorem ldaImm (b : Byte) : Statement (.ldaImm b) := ⟨rfl, rfl⟩
theorem ldaAbs (a : Addr) : Statement (.ldaAbs a) := ⟨rfl, rfl⟩
theorem ldaIndy (b : Byte) : Statement (.ldaIndy b) := ⟨rfl, rfl⟩
theorem ldaZpx (b : Byte) : Statement (.ldaZpx b) := ⟨rfl, rfl⟩
theorem ldaAbsy (a : Addr) : Statement (.ldaAbsy a) := ⟨rfl, rfl⟩
theorem ldaAbsx (a : Addr) : Statement (.ldaAbsx a) := ⟨rfl, rfl⟩
theorem ldxImm (b : Byte) : Statement (.ldxImm b) := ⟨rfl, rfl⟩
theorem ldxZp (b : Byte) : Statement (.ldxZp b) := ⟨rfl, rfl⟩
theorem ldxAbs (a : Addr) : Statement (.ldxAbs a) := ⟨rfl, rfl⟩
theorem ldxZpy (b : Byte) : Statement (.ldxZpy b) := ⟨rfl, rfl⟩
theorem ldxAbsy (a : Addr) : Statement (.ldxAbsy a) := ⟨rfl, rfl⟩
theorem ldyImm (b : Byte) : Statement (.ldyImm b) := ⟨rfl, rfl⟩
theorem ldyZp (b : Byte) : Statement (.ldyZp b) := ⟨rfl, rfl⟩
theorem ldyAbs (a : Addr) : Statement (.ldyAbs a) := ⟨rfl, rfl⟩
theorem ldyZpx (b : Byte) : Statement (.ldyZpx b) := ⟨rfl, rfl⟩
theorem ldyAbsx (a : Addr) : Statement (.ldyAbsx a) := ⟨rfl, rfl⟩
theorem staIndx (b : Byte) : Statement (.staIndx b) := ⟨rfl, rfl⟩
theorem staZp (b : Byte) : Statement (.staZp b) := ⟨rfl, rfl⟩
theorem staAbs (a : Addr) : Statement (.staAbs a) := ⟨rfl, rfl⟩
theorem staIndy (b : Byte) : Statement (.staIndy b) := ⟨rfl, rfl⟩
theorem staZpx (b : Byte) : Statement (.staZpx b) := ⟨rfl, rfl⟩
theorem staAbsy (a : Addr) : Statement (.staAbsy a) := ⟨rfl, rfl⟩
theorem staAbsx (a : Addr) : Statement (.staAbsx a) := ⟨rfl, rfl⟩
theorem stxZp (b : Byte) : Statement (.stxZp b) := ⟨rfl, rfl⟩
theorem stxAbs (a : Addr) : Statement (.stxAbs a) := ⟨rfl, rfl⟩
theorem stxZpy (b : Byte) : Statement (.stxZpy b) := ⟨rfl, rfl⟩
theorem styZp (b : Byte) : Statement (.styZp b) := ⟨rfl, rfl⟩
theorem styAbs (a : Addr) : Statement (.styAbs a) := ⟨rfl, rfl⟩
theorem styZpx (b : Byte) : Statement (.styZpx b) := ⟨rfl, rfl⟩
theorem tax : Statement .tax := ⟨rfl, rfl⟩
theorem tay : Statement .tay := ⟨rfl, rfl⟩
theorem txa : Statement .txa := ⟨rfl, rfl⟩
theorem tya : Statement .tya := ⟨rfl, rfl⟩
theorem tsx : Statement .tsx := ⟨rfl, rfl⟩
theorem txs : Statement .txs := ⟨rfl, rfl⟩
theorem pha : Statement .pha := ⟨rfl, rfl⟩
theorem php : Statement .php := ⟨rfl, rfl⟩
theorem pla : Statement .pla := ⟨rfl, rfl⟩
theorem plp : Statement .plp := ⟨rfl, rfl⟩
theorem adcIndx (b : Byte) : Statement (.adcIndx b) := ⟨rfl, rfl⟩
theorem adcZp (b : Byte) : Statement (.adcZp b) := ⟨rfl, rfl⟩
theorem adcImm (b : Byte) : Statement (.adcImm b) := ⟨rfl, rfl⟩
theorem adcAbs (a : Addr) : Statement (.adcAbs a) := ⟨rfl, rfl⟩
theorem adcIndy (b : Byte) : Statement (.adcIndy b) := ⟨rfl, rfl⟩
theorem adcZpx (b : Byte) : Statement (.adcZpx b) := ⟨rfl, rfl⟩
theorem adcAbsy (a : Addr) : Statement (.adcAbsy a) := ⟨rfl, rfl⟩
theorem adcAbsx (a : Addr) : Statement (.adcAbsx a) := ⟨rfl, rfl⟩
theorem sbcIndx (b : Byte) : Statement (.sbcIndx b) := ⟨rfl, rfl⟩
theorem sbcZp (b : Byte) : Statement (.sbcZp b) := ⟨rfl, rfl⟩
theorem sbcImm (b : Byte) : Statement (.sbcImm b) := ⟨rfl, rfl⟩
theorem sbcAbs (a : Addr) : Statement (.sbcAbs a) := ⟨rfl, rfl⟩
theorem sbcIndy (b : Byte) : Statement (.sbcIndy b) := ⟨rfl, rfl⟩
theorem sbcZpx (b : Byte) : Statement (.sbcZpx b) := ⟨rfl, rfl⟩
theorem sbcAbsy (a : Addr) : Statement (.sbcAbsy a) := ⟨rfl, rfl⟩
theorem sbcAbsx (a : Addr) : Statement (.sbcAbsx a) := ⟨rfl, rfl⟩
theorem andIndx (b : Byte) : Statement (.andIndx b) := ⟨rfl, rfl⟩
theorem andZp (b : Byte) : Statement (.andZp b) := ⟨rfl, rfl⟩
theorem andImm (b : Byte) : Statement (.andImm b) := ⟨rfl, rfl⟩
theorem andAbs (a : Addr) : Statement (.andAbs a) := ⟨rfl, rfl⟩
theorem andIndy (b : Byte) : Statement (.andIndy b) := ⟨rfl, rfl⟩
theorem andZpx (b : Byte) : Statement (.andZpx b) := ⟨rfl, rfl⟩
theorem andAbsy (a : Addr) : Statement (.andAbsy a) := ⟨rfl, rfl⟩
theorem andAbsx (a : Addr) : Statement (.andAbsx a) := ⟨rfl, rfl⟩
theorem oraIndx (b : Byte) : Statement (.oraIndx b) := ⟨rfl, rfl⟩
theorem oraZp (b : Byte) : Statement (.oraZp b) := ⟨rfl, rfl⟩
theorem oraImm (b : Byte) : Statement (.oraImm b) := ⟨rfl, rfl⟩
theorem oraAbs (a : Addr) : Statement (.oraAbs a) := ⟨rfl, rfl⟩
theorem oraIndy (b : Byte) : Statement (.oraIndy b) := ⟨rfl, rfl⟩
theorem oraZpx (b : Byte) : Statement (.oraZpx b) := ⟨rfl, rfl⟩
theorem oraAbsy (a : Addr) : Statement (.oraAbsy a) := ⟨rfl, rfl⟩
theorem oraAbsx (a : Addr) : Statement (.oraAbsx a) := ⟨rfl, rfl⟩
theorem eorIndx (b : Byte) : Statement (.eorIndx b) := ⟨rfl, rfl⟩
theorem eorZp (b : Byte) : Statement (.eorZp b) := ⟨rfl, rfl⟩
theorem eorImm (b : Byte) : Statement (.eorImm b) := ⟨rfl, rfl⟩
theorem eorAbs (a : Addr) : Statement (.eorAbs a) := ⟨rfl, rfl⟩
theorem eorIndy (b : Byte) : Statement (.eorIndy b) := ⟨rfl, rfl⟩
theorem eorZpx (b : Byte) : Statement (.eorZpx b) := ⟨rfl, rfl⟩
theorem eorAbsy (a : Addr) : Statement (.eorAbsy a) := ⟨rfl, rfl⟩
theorem eorAbsx (a : Addr) : Statement (.eorAbsx a) := ⟨rfl, rfl⟩
theorem cmpIndx (b : Byte) : Statement (.cmpIndx b) := ⟨rfl, rfl⟩
theorem cmpZp (b : Byte) : Statement (.cmpZp b) := ⟨rfl, rfl⟩
theorem cmpImm (b : Byte) : Statement (.cmpImm b) := ⟨rfl, rfl⟩
theorem cmpAbs (a : Addr) : Statement (.cmpAbs a) := ⟨rfl, rfl⟩
theorem cmpIndy (b : Byte) : Statement (.cmpIndy b) := ⟨rfl, rfl⟩
theorem cmpZpx (b : Byte) : Statement (.cmpZpx b) := ⟨rfl, rfl⟩
theorem cmpAbsy (a : Addr) : Statement (.cmpAbsy a) := ⟨rfl, rfl⟩
theorem cmpAbsx (a : Addr) : Statement (.cmpAbsx a) := ⟨rfl, rfl⟩
theorem cpxImm (b : Byte) : Statement (.cpxImm b) := ⟨rfl, rfl⟩
theorem cpxZp (b : Byte) : Statement (.cpxZp b) := ⟨rfl, rfl⟩
theorem cpxAbs (a : Addr) : Statement (.cpxAbs a) := ⟨rfl, rfl⟩
theorem cpyImm (b : Byte) : Statement (.cpyImm b) := ⟨rfl, rfl⟩
theorem cpyZp (b : Byte) : Statement (.cpyZp b) := ⟨rfl, rfl⟩
theorem cpyAbs (a : Addr) : Statement (.cpyAbs a) := ⟨rfl, rfl⟩
theorem bitZp (b : Byte) : Statement (.bitZp b) := ⟨rfl, rfl⟩
theorem bitAbs (a : Addr) : Statement (.bitAbs a) := ⟨rfl, rfl⟩
theorem incZp (b : Byte) : Statement (.incZp b) := ⟨rfl, rfl⟩
theorem incAbs (a : Addr) : Statement (.incAbs a) := ⟨rfl, rfl⟩
theorem incZpx (b : Byte) : Statement (.incZpx b) := ⟨rfl, rfl⟩
theorem incAbsx (a : Addr) : Statement (.incAbsx a) := ⟨rfl, rfl⟩
theorem inx : Statement .inx := ⟨rfl, rfl⟩
theorem iny : Statement .iny := ⟨rfl, rfl⟩
theorem decZp (b : Byte) : Statement (.decZp b) := ⟨rfl, rfl⟩
theorem decAbs (a : Addr) : Statement (.decAbs a) := ⟨rfl, rfl⟩
theorem decZpx (b : Byte) : Statement (.decZpx b) := ⟨rfl, rfl⟩
theorem decAbsx (a : Addr) : Statement (.decAbsx a) := ⟨rfl, rfl⟩
theorem dex : Statement .dex := ⟨rfl, rfl⟩
theorem dey : Statement .dey := ⟨rfl, rfl⟩
theorem aslZp (b : Byte) : Statement (.aslZp b) := ⟨rfl, rfl⟩
theorem aslAcc : Statement .aslAcc := ⟨rfl, rfl⟩
theorem aslAbs (a : Addr) : Statement (.aslAbs a) := ⟨rfl, rfl⟩
theorem aslZpx (b : Byte) : Statement (.aslZpx b) := ⟨rfl, rfl⟩
theorem aslAbsx (a : Addr) : Statement (.aslAbsx a) := ⟨rfl, rfl⟩
theorem lsrZp (b : Byte) : Statement (.lsrZp b) := ⟨rfl, rfl⟩
theorem lsrAcc : Statement .lsrAcc := ⟨rfl, rfl⟩
theorem lsrAbs (a : Addr) : Statement (.lsrAbs a) := ⟨rfl, rfl⟩
theorem lsrZpx (b : Byte) : Statement (.lsrZpx b) := ⟨rfl, rfl⟩
theorem lsrAbsx (a : Addr) : Statement (.lsrAbsx a) := ⟨rfl, rfl⟩
theorem rolZp (b : Byte) : Statement (.rolZp b) := ⟨rfl, rfl⟩
theorem rolAcc : Statement .rolAcc := ⟨rfl, rfl⟩
theorem rolAbs (a : Addr) : Statement (.rolAbs a) := ⟨rfl, rfl⟩
theorem rolZpx (b : Byte) : Statement (.rolZpx b) := ⟨rfl, rfl⟩
theorem rolAbsx (a : Addr) : Statement (.rolAbsx a) := ⟨rfl, rfl⟩
theorem rorZp (b : Byte) : Statement (.rorZp b) := ⟨rfl, rfl⟩
theorem rorAcc : Statement .rorAcc := ⟨rfl, rfl⟩
theorem rorAbs (a : Addr) : Statement (.rorAbs a) := ⟨rfl, rfl⟩
theorem rorZpx (b : Byte) : Statement (.rorZpx b) := ⟨rfl, rfl⟩
theorem rorAbsx (a : Addr) : Statement (.rorAbsx a) := ⟨rfl, rfl⟩
theorem jmpAbs (a : Addr) : Statement (.jmpAbs a) := ⟨rfl, rfl⟩
theorem jmpInd (a : Addr) : Statement (.jmpInd a) := ⟨rfl, rfl⟩
theorem jsrAbs (a : Addr) : Statement (.jsrAbs a) := ⟨rfl, rfl⟩
theorem rts : Statement .rts := ⟨rfl, rfl⟩
theorem rti : Statement .rti := ⟨rfl, rfl⟩
theorem brk : Statement .brk := ⟨rfl, rfl⟩
theorem bpl (off : Byte) : Statement (.bpl off) := ⟨rfl, rfl⟩
theorem bmi (off : Byte) : Statement (.bmi off) := ⟨rfl, rfl⟩
theorem bvc (off : Byte) : Statement (.bvc off) := ⟨rfl, rfl⟩
theorem bvs (off : Byte) : Statement (.bvs off) := ⟨rfl, rfl⟩
theorem bcc (off : Byte) : Statement (.bcc off) := ⟨rfl, rfl⟩
theorem bcs (off : Byte) : Statement (.bcs off) := ⟨rfl, rfl⟩
theorem bne (off : Byte) : Statement (.bne off) := ⟨rfl, rfl⟩
theorem beq (off : Byte) : Statement (.beq off) := ⟨rfl, rfl⟩
theorem clc : Statement .clc := ⟨rfl, rfl⟩
theorem sec : Statement .sec := ⟨rfl, rfl⟩
theorem cli : Statement .cli := ⟨rfl, rfl⟩
theorem sei : Statement .sei := ⟨rfl, rfl⟩
theorem clv : Statement .clv := ⟨rfl, rfl⟩
theorem cld : Statement .cld := ⟨rfl, rfl⟩
theorem sed : Statement .sed := ⟨rfl, rfl⟩
theorem nop : Statement .nop := ⟨rfl, rfl⟩

end Sys2Proof.Laws.RowWellFormed
end

