-- ==== Sys2Proof/Tests/Slice0.lean ====
section
/-! SUPPORT. The model's own tests: what WellFormed refuses, the decoding of every row of the opcode table, one or two vectors of
spec/95_test_vectors.md a mnemonic, and for each statement with hypotheses a state and operands that meet them. -/

namespace Sys2Proof.Tests

open Sys2Proof.Machine Sys2Proof.Claims

/-! ## WellFormed refuses, one ill-formed term a check -/

/-- 0x02 is one of R100's bytes. -/
theorem test_wf_illegal_opcode :
    (Encoded.mk ⟨0x02, .nop, .imp, 2, false⟩ []).legal = false ∧ (Encoded.mk ⟨0x02, .nop, .imp, 2, false⟩ []).wf = false := by
  decide

/-- An absolute operand needs two bytes (R82). -/
theorem test_wf_missing_operand :
    (Encoded.mk ⟨0xAD, .lda, .abs, 4, false⟩ [0x34]).complete = false ∧
    (Encoded.mk ⟨0xAD, .lda, .abs, 4, false⟩ [0x34]).wf = false := by decide

/-- A page-zero mode reports no page crossing (R104). -/
theorem test_wf_page_cross_flag :
    (Encoded.mk ⟨0xA5, .lda, .zp, 3, true⟩ [0x34]).flagOk = false ∧ (Encoded.mk ⟨0xA5, .lda, .zp, 3, true⟩ [0x34]).wf = false := by
  decide

/-- No instruction costs 1 or 8 (R99, R332). -/
theorem test_wf_cost :
    (Encoded.mk ⟨0xEA, .nop, .imp, 1, false⟩ []).costOk = false ∧ (Encoded.mk ⟨0xEA, .nop, .imp, 8, false⟩ []).wf = false := by
  decide

/-! ## Decoding: every row of the opcode table (R99), operand bytes 0x34 and 0x12 -/

/-- The instruction a list of bytes begins with. -/
def firstOf (bs : List Byte) : Option Instr :=
  match decode bs with
  | .ok r => some r.1
  | .error _ => none

theorem test_decode_loads_stores_1 :
    (
      [[0x81, 0x34], [0x84, 0x34], [0x85, 0x34], [0x86, 0x34], [0x8C, 0x34, 0x12], [0x8D, 0x34, 0x12],
       [0x8E, 0x34, 0x12], [0x91, 0x34], [0x94, 0x34], [0x95, 0x34], [0x96, 0x34], [0x99, 0x34, 0x12],
       [0x9D, 0x34, 0x12], [0xA0, 0x34], [0xA1, 0x34], [0xA2, 0x34]] : List (List Byte)).map firstOf =
    (
      [.staIndx 0x34, .styZp 0x34, .staZp 0x34, .stxZp 0x34, .styAbs 0x1234, .staAbs 0x1234, .stxAbs 0x1234,
       .staIndy 0x34, .styZpx 0x34, .staZpx 0x34, .stxZpy 0x34, .staAbsy 0x1234, .staAbsx 0x1234, .ldyImm 0x34,
       .ldaIndx 0x34, .ldxImm 0x34] : List Instr).map some := by decide

theorem test_decode_loads_stores_2 :
    (
      [[0xA4, 0x34], [0xA5, 0x34], [0xA6, 0x34], [0xA9, 0x34], [0xAC, 0x34, 0x12], [0xAD, 0x34, 0x12],
       [0xAE, 0x34, 0x12], [0xB1, 0x34], [0xB4, 0x34], [0xB5, 0x34], [0xB6, 0x34], [0xB9, 0x34, 0x12],
       [0xBC, 0x34, 0x12], [0xBD, 0x34, 0x12], [0xBE, 0x34, 0x12]] : List (List Byte)).map firstOf =
    (
      [.ldyZp 0x34, .ldaZp 0x34, .ldxZp 0x34, .ldaImm 0x34, .ldyAbs 0x1234, .ldaAbs 0x1234, .ldxAbs 0x1234,
       .ldaIndy 0x34, .ldyZpx 0x34, .ldaZpx 0x34, .ldxZpy 0x34, .ldaAbsy 0x1234, .ldyAbsx 0x1234, .ldaAbsx 0x1234,
       .ldxAbsy 0x1234] : List Instr).map some := by decide

theorem test_decode_transfers_stack :
    (
      [[0x08], [0x28], [0x48], [0x68], [0x8A], [0x98], [0x9A], [0xA8], [0xAA], [0xBA]] : List (List Byte)).map firstOf =
    (
      [.php, .plp, .pha, .pla, .txa, .tya, .txs, .tay, .tax, .tsx] : List Instr).map some := by decide

theorem test_decode_add_subtract :
    (
      [[0x61, 0x34], [0x65, 0x34], [0x69, 0x34], [0x6D, 0x34, 0x12], [0x71, 0x34], [0x75, 0x34], [0x79, 0x34, 0x12],
       [0x7D, 0x34, 0x12], [0xE1, 0x34], [0xE5, 0x34], [0xE9, 0x34], [0xED, 0x34, 0x12], [0xF1, 0x34], [0xF5, 0x34],
       [0xF9, 0x34, 0x12], [0xFD, 0x34, 0x12]] : List (List Byte)).map firstOf =
    (
      [.adcIndx 0x34, .adcZp 0x34, .adcImm 0x34, .adcAbs 0x1234, .adcIndy 0x34, .adcZpx 0x34, .adcAbsy 0x1234,
       .adcAbsx 0x1234, .sbcIndx 0x34, .sbcZp 0x34, .sbcImm 0x34, .sbcAbs 0x1234, .sbcIndy 0x34, .sbcZpx 0x34,
       .sbcAbsy 0x1234, .sbcAbsx 0x1234] : List Instr).map some := by decide

theorem test_decode_logic_1 :
    (
      [[0x01, 0x34], [0x05, 0x34], [0x09, 0x34], [0x0D, 0x34, 0x12], [0x11, 0x34], [0x15, 0x34], [0x19, 0x34, 0x12],
       [0x1D, 0x34, 0x12], [0x21, 0x34], [0x25, 0x34], [0x29, 0x34], [0x2D, 0x34, 0x12], [0x31, 0x34], [0x35, 0x34],
       [0x39, 0x34, 0x12], [0x3D, 0x34, 0x12]] : List (List Byte)).map firstOf =
    (
      [.oraIndx 0x34, .oraZp 0x34, .oraImm 0x34, .oraAbs 0x1234, .oraIndy 0x34, .oraZpx 0x34, .oraAbsy 0x1234,
       .oraAbsx 0x1234, .andIndx 0x34, .andZp 0x34, .andImm 0x34, .andAbs 0x1234, .andIndy 0x34, .andZpx 0x34,
       .andAbsy 0x1234, .andAbsx 0x1234] : List Instr).map some := by decide

theorem test_decode_logic_2 :
    (
      [[0x41, 0x34], [0x45, 0x34], [0x49, 0x34], [0x4D, 0x34, 0x12], [0x51, 0x34], [0x55, 0x34], [0x59, 0x34, 0x12],
       [0x5D, 0x34, 0x12]] : List (List Byte)).map firstOf =
    (
      [.eorIndx 0x34, .eorZp 0x34, .eorImm 0x34, .eorAbs 0x1234, .eorIndy 0x34, .eorZpx 0x34, .eorAbsy 0x1234,
       .eorAbsx 0x1234] : List Instr).map some := by decide

theorem test_decode_compare_bit :
    (
      [[0x24, 0x34], [0x2C, 0x34, 0x12], [0xC0, 0x34], [0xC1, 0x34], [0xC4, 0x34], [0xC5, 0x34], [0xC9, 0x34],
       [0xCC, 0x34, 0x12], [0xCD, 0x34, 0x12], [0xD1, 0x34], [0xD5, 0x34], [0xD9, 0x34, 0x12], [0xDD, 0x34, 0x12],
       [0xE0, 0x34], [0xE4, 0x34], [0xEC, 0x34, 0x12]] : List (List Byte)).map firstOf =
    (
      [.bitZp 0x34, .bitAbs 0x1234, .cpyImm 0x34, .cmpIndx 0x34, .cpyZp 0x34, .cmpZp 0x34, .cmpImm 0x34,
       .cpyAbs 0x1234, .cmpAbs 0x1234, .cmpIndy 0x34, .cmpZpx 0x34, .cmpAbsy 0x1234, .cmpAbsx 0x1234, .cpxImm 0x34,
       .cpxZp 0x34, .cpxAbs 0x1234] : List Instr).map some := by decide

theorem test_decode_inc_dec :
    (
      [[0x88], [0xC6, 0x34], [0xC8], [0xCA], [0xCE, 0x34, 0x12], [0xD6, 0x34], [0xDE, 0x34, 0x12], [0xE6, 0x34],
       [0xE8], [0xEE, 0x34, 0x12], [0xF6, 0x34], [0xFE, 0x34, 0x12]] : List (List Byte)).map firstOf =
    (
      [.dey, .decZp 0x34, .iny, .dex, .decAbs 0x1234, .decZpx 0x34, .decAbsx 0x1234, .incZp 0x34, .inx,
       .incAbs 0x1234, .incZpx 0x34, .incAbsx 0x1234] : List Instr).map some := by decide

theorem test_decode_shift_rotate_1 :
    (
      [[0x06, 0x34], [0x0A], [0x0E, 0x34, 0x12], [0x16, 0x34], [0x1E, 0x34, 0x12], [0x26, 0x34], [0x2A],
       [0x2E, 0x34, 0x12], [0x36, 0x34], [0x3E, 0x34, 0x12], [0x46, 0x34], [0x4A], [0x4E, 0x34, 0x12], [0x56, 0x34],
       [0x5E, 0x34, 0x12], [0x66, 0x34]] : List (List Byte)).map firstOf =
    (
      [.aslZp 0x34, .aslAcc, .aslAbs 0x1234, .aslZpx 0x34, .aslAbsx 0x1234, .rolZp 0x34, .rolAcc, .rolAbs 0x1234,
       .rolZpx 0x34, .rolAbsx 0x1234, .lsrZp 0x34, .lsrAcc, .lsrAbs 0x1234, .lsrZpx 0x34, .lsrAbsx 0x1234,
       .rorZp 0x34] : List Instr).map some := by decide

theorem test_decode_shift_rotate_2 :
    (
      [[0x6A], [0x6E, 0x34, 0x12], [0x76, 0x34], [0x7E, 0x34, 0x12]] : List (List Byte)).map firstOf =
    (
      [.rorAcc, .rorAbs 0x1234, .rorZpx 0x34, .rorAbsx 0x1234] : List Instr).map some := by decide

theorem test_decode_control :
    (
      [[0x00], [0x10, 0x34], [0x20, 0x34, 0x12], [0x30, 0x34], [0x40], [0x4C, 0x34, 0x12], [0x50, 0x34], [0x60],
       [0x6C, 0x34, 0x12], [0x70, 0x34], [0x90, 0x34], [0xB0, 0x34], [0xD0, 0x34], [0xF0, 0x34]] : List (List Byte)).map firstOf =
    (
      [.brk, .bpl 0x34, .jsrAbs 0x1234, .bmi 0x34, .rti, .jmpAbs 0x1234, .bvc 0x34, .rts, .jmpInd 0x1234, .bvs 0x34,
       .bcc 0x34, .bcs 0x34, .bne 0x34, .beq 0x34] : List Instr).map some := by decide

theorem test_decode_flags :
    (
      [[0x18], [0x38], [0x58], [0x78], [0xB8], [0xD8], [0xEA], [0xF8]] : List (List Byte)).map firstOf =
    (
      [.clc, .sec, .cli, .sei, .clv, .cld, .nop, .sed] : List Instr).map some := by decide

/-- The bytes of R100 decode to nothing; a cut instruction is refused too. -/
theorem test_decode_refuses : firstOf [0x02] = none ∧ firstOf [0xFF, 0x00] = none ∧ firstOf [0xAD, 0x34] = none := by decide

/-- The host's table words: JMP 0x1234 is 4C 34 12, so its word is 0x12344C; LDA #0x80 is A9 80 (V2). -/
theorem test_table_word :
    decodeTableWord 24 0x12344C = some (.jmpAbs 0x1234) ∧ decodeTableWord 16 0x80A9 = some (.ldaImm 0x80) ∧
    decodeTableWord 8 0x02 = none := by decide

/-! ## Vectors of spec/95_test_vectors.md, section 2: one fetch step from its initial state -/

/-- The start state of the vectors, with the instruction at an address of the PRG window. -/
def machineAt (pc : Addr) (bytes : List Byte) : State :=
  { State.reset with pc := pc, cart := { Cartridge.empty with prg := Memory.ofBytesFrom (pc.toNat - 0x8000) bytes } }

/-- The instruction at 0x8000. -/
def machine (bytes : List Byte) : State := machineAt 0x8000 bytes

/-- A, X, Y, S, P, pc and the cost after a step. -/
def result (s : State) : List Nat :=
  match step s with
  | .next t => [t.a.toNat, t.x.toNat, t.y.toNat, t.sp.toNat, t.p.toNat, t.pc.toNat, t.pending + 1]
  | _ => []

/-- RAM bytes after a step. -/
def ramAfter (s : State) (cells : List Nat) : List Nat :=
  match step s with
  | .next t => cells.map fun k => (t.ram.read k).toNat
  | _ => []

/-- V8: LDA (zp,X) pointer wraps (low at 0xFF, high at 0x00). -/
theorem test_lda_v8 :
    result { machine [0xA1, 0xF0] with x := 0x0F, ram := [(0x0000, 0x03), (0x0100, 0x07), (0x0300, 0x5A)] } =
      [0x5A, 0x0F, 0x00, 0xFD, 0x24, 0x8002, 6] := by decide

/-- V9: LDA (zp),Y pointer at 0xFF wraps; 0x02FF+1 crosses. -/
theorem test_lda_v9 :
    result { machine [0xB1, 0xFF] with y := 0x01, ram := [(0x0000, 0x02), (0x00FF, 0xFF), (0x0300, 0xC3)] } =
      [0xC3, 0x00, 0x01, 0xFD, 0xA4, 0x8002, 6] := by decide

/-- V12: LDX abs,Y page cross. -/
theorem test_ldx_v12 :
    result { machine [0xBE, 0xFF, 0x02] with y := 0x02, ram := [(0x0301, 0x80)] } =
      [0x00, 0x80, 0x02, 0xFD, 0xA4, 0x8003, 5] := by decide

/-- V13: LDY abs,X page cross. -/
theorem test_ldy_v13 :
    result { machine [0xBC, 0xF0, 0x02] with x := 0x10, y := 0x01 } =
      [0x00, 0x10, 0x00, 0xFD, 0x26, 0x8003, 5] := by decide

/-- V15: STA abs: 0x0800 mirrors RAM[0x0000]. -/
theorem test_sta_v15 :
    result { machine [0x8D, 0x00, 0x08] with a := 0x42 } =
      [0x42, 0x00, 0x00, 0xFD, 0x24, 0x8003, 4] ∧
    ramAfter { machine [0x8D, 0x00, 0x08] with a := 0x42 } [0x0000] =
      [0x42] := by decide

/-- V17: STA (zp),Y: crossing, cost stays 6. -/
theorem test_sta_v17 :
    result { machine [0x91, 0x20] with a := 0x66, y := 0xFF, ram := [(0x0020, 0x01), (0x0021, 0x02)] } =
      [0x66, 0x00, 0xFF, 0xFD, 0x24, 0x8002, 6] ∧
    ramAfter { machine [0x91, 0x20] with a := 0x66, y := 0xFF, ram := [(0x0020, 0x01), (0x0021, 0x02)] } [0x0300] =
      [0x66] := by decide

/-- V19: STX zp,Y wraps to 0x0001. -/
theorem test_stx_v19 :
    result { machine [0x96, 0x02] with x := 0x05, y := 0xFF } =
      [0x00, 0x05, 0xFF, 0xFD, 0x24, 0x8002, 4] ∧
    ramAfter { machine [0x96, 0x02] with x := 0x05, y := 0xFF } [0x0001] =
      [0x05] := by decide

/-- V20: STY zp,X. -/
theorem test_sty_v20 :
    result { machine [0x94, 0x10] with x := 0x01, y := 0x09 } =
      [0x00, 0x01, 0x09, 0xFD, 0x24, 0x8002, 4] ∧
    ramAfter { machine [0x94, 0x10] with x := 0x01, y := 0x09 } [0x0011] =
      [0x09] := by decide

/-- V28: TAX negative. -/
theorem test_tax_v28 :
    result { machine [0xAA] with a := 0x80 } =
      [0x80, 0x80, 0x00, 0xFD, 0xA4, 0x8001, 2] := by decide

/-- V29: TAY. -/
theorem test_tay_v29 :
    result { machine [0xA8] with a := 0x90 } =
      [0x90, 0x00, 0x90, 0xFD, 0xA4, 0x8001, 2] := by decide

/-- V30: TXA. -/
theorem test_txa_v30 :
    result { machine [0x8A] with a := 0x01, x := 0x7F } =
      [0x7F, 0x7F, 0x00, 0xFD, 0x24, 0x8001, 2] := by decide

/-- V31: TYA zero. -/
theorem test_tya_v31 :
    result { machine [0x98] with a := 0x01, y := 0x00 } =
      [0x00, 0x00, 0x00, 0xFD, 0x26, 0x8001, 2] := by decide

/-- V32: TSX after reset. -/
theorem test_tsx_v32 :
    result { machine [0xBA] with sp := 0xFD } =
      [0x00, 0xFD, 0x00, 0xFD, 0xA4, 0x8001, 2] := by decide

/-- V34: TXS leaves flags (X = 0 but Z stays 0). -/
theorem test_txs_v34 :
    result { machine [0x9A] with x := 0x00, p := 0xA4 } =
      [0x00, 0x00, 0x00, 0x00, 0xA4, 0x8001, 2] := by decide

/-- V37: PHA with S = 0x00 wraps to 0xFF. -/
theorem test_pha_v37 :
    result { machine [0x48] with a := 0x42, sp := 0x00 } =
      [0x42, 0x00, 0x00, 0xFF, 0x24, 0x8001, 3] ∧
    ramAfter { machine [0x48] with a := 0x42, sp := 0x00 } [0x0100] =
      [0x42] := by decide

/-- V38: PHP pushes P with B and bit 5 set. -/
theorem test_php_v38 :
    result { machine [0x08] with p := 0xE5 } =
      [0x00, 0x00, 0x00, 0xFC, 0xE5, 0x8001, 3] ∧
    ramAfter { machine [0x08] with p := 0xE5 } [0x01FD] =
      [0xF5] := by decide

/-- V41: PLA negative, S = 0xFF wraps to 0x00. -/
theorem test_pla_v41 :
    result { machine [0x68] with sp := 0xFF, ram := [(0x0100, 0x80)] } =
      [0x80, 0x00, 0x00, 0x00, 0xA4, 0x8001, 4] := by decide

/-- V42: PLP 0xFF: bit 4 dropped. -/
theorem test_plp_v42 :
    result { machine [0x28] with sp := 0xFC, ram := [(0x01FD, 0xFF)] } =
      [0x00, 0x00, 0x00, 0xFD, 0xEF, 0x8001, 4] := by decide

/-- V45: ADC 0x50+0x50: signed overflow. -/
theorem test_adc_v45 :
    result { machine [0x69, 0x50] with a := 0x50 } =
      [0xA0, 0x00, 0x00, 0xFD, 0xE4, 0x8002, 2] := by decide

/-- V50: ADC with D set is binary: 0x09+0x01. -/
theorem test_adc_v50 :
    result { machine [0x69, 0x01] with a := 0x09, p := 0x2C } =
      [0x0A, 0x00, 0x00, 0xFD, 0x2C, 0x8002, 2] := by decide

/-- V53: SBC 0x50-0xB0, C=1: overflow. -/
theorem test_sbc_v53 :
    result { machine [0xE9, 0xB0] with a := 0x50, p := 0x25 } =
      [0xA0, 0x00, 0x00, 0xFD, 0xE4, 0x8002, 2] := by decide

/-- V56: SBC 0x05-0x05, C=0 (borrow in). -/
theorem test_sbc_v56 :
    result { machine [0xE9, 0x05] with a := 0x05, p := 0x24 } =
      [0xFF, 0x00, 0x00, 0xFD, 0xA4, 0x8002, 2] := by decide

/-- V60: AND negative. -/
theorem test_and_v60 :
    result { machine [0x29, 0xC0] with a := 0x81 } =
      [0x80, 0x00, 0x00, 0xFD, 0xA4, 0x8002, 2] := by decide

/-- V61: ORA. -/
theorem test_ora_v61 :
    result { machine [0x09, 0x80] with a := 0x01 } =
      [0x81, 0x00, 0x00, 0xFD, 0xA4, 0x8002, 2] := by decide

/-- V63: EOR to zero. -/
theorem test_eor_v63 :
    result { machine [0x49, 0xFF] with a := 0xFF } =
      [0x00, 0x00, 0x00, 0xFD, 0x26, 0x8002, 2] := by decide

/-- V66: CMP less (unsigned). -/
theorem test_cmp_v66 :
    result { machine [0xC9, 0x41] with a := 0x40, p := 0x25 } =
      [0x40, 0x00, 0x00, 0xFD, 0xA4, 0x8002, 2] := by decide

/-- V67: CMP 0x80 vs 0x01: C=1, N=0, V untouched. -/
theorem test_cmp_v67 :
    result { machine [0xC9, 0x01] with a := 0x80, p := 0x64 } =
      [0x80, 0x00, 0x00, 0xFD, 0x65, 0x8002, 2] := by decide

/-- V70: CPX zp less. -/
theorem test_cpx_v70 :
    result { machine [0xE4, 0x10] with x := 0x01, ram := [(0x0010, 0x02)] } =
      [0x00, 0x01, 0x00, 0xFD, 0xA4, 0x8002, 3] := by decide

/-- V72: CPY abs. -/
theorem test_cpy_v72 :
    result { machine [0xCC, 0x00, 0x03] with y := 0xFF, ram := [(0x0300, 0x7F)] } =
      [0x00, 0x00, 0xFF, 0xFD, 0xA5, 0x8003, 4] := by decide

/-- V73: BIT: A and M disjoint; N, V from M. -/
theorem test_bit_v73 :
    result { machine [0x24, 0x10] with a := 0x01, ram := [(0x0010, 0xC0)] } =
      [0x01, 0x00, 0x00, 0xFD, 0xE6, 0x8002, 3] := by decide

/-- V76: INC zp wraps to zero. -/
theorem test_inc_v76 :
    result { machine [0xE6, 0x10] with p := 0x25, ram := [(0x0010, 0xFF)] } =
      [0x00, 0x00, 0x00, 0xFD, 0x27, 0x8002, 5] ∧
    ramAfter { machine [0xE6, 0x10] with p := 0x25, ram := [(0x0010, 0xFF)] } [0x0010] =
      [0x00] := by decide

/-- V77: INC abs,X cost fixed 7. -/
theorem test_inc_v77 :
    result { machine [0xFE, 0xFF, 0x02] with x := 0x01, ram := [(0x0300, 0x7F)] } =
      [0x00, 0x01, 0x00, 0xFD, 0xA4, 0x8003, 7] ∧
    ramAfter { machine [0xFE, 0xFF, 0x02] with x := 0x01, ram := [(0x0300, 0x7F)] } [0x0300] =
      [0x80] := by decide

/-- V79: DEC zp wraps to 0xFF. -/
theorem test_dec_v79 :
    result (machine [0xC6, 0x10]) =
      [0x00, 0x00, 0x00, 0xFD, 0xA4, 0x8002, 5] ∧
    ramAfter (machine [0xC6, 0x10]) [0x0010] =
      [0xFF] := by decide

/-- V81: INX wraps. -/
theorem test_inx_v81 :
    result { machine [0xE8] with x := 0xFF } =
      [0x00, 0x00, 0x00, 0xFD, 0x26, 0x8001, 2] := by decide

/-- V82: INY. -/
theorem test_iny_v82 :
    result { machine [0xC8] with y := 0x7F } =
      [0x00, 0x00, 0x80, 0xFD, 0xA4, 0x8001, 2] := by decide

/-- V83: DEX to zero. -/
theorem test_dex_v83 :
    result { machine [0xCA] with x := 0x01 } =
      [0x00, 0x00, 0x00, 0xFD, 0x26, 0x8001, 2] := by decide

/-- V84: DEY wraps. -/
theorem test_dey_v84 :
    result { machine [0x88] with y := 0x00 } =
      [0x00, 0x00, 0xFF, 0xFD, 0xA4, 0x8001, 2] := by decide

/-- V86: ASL A. -/
theorem test_asl_v86 :
    result { machine [0x0A] with a := 0x41, p := 0x25 } =
      [0x82, 0x00, 0x00, 0xFD, 0xA4, 0x8001, 2] := by decide

/-- V87: ASL zp. -/
theorem test_asl_v87 :
    result { machine [0x06, 0x10] with ram := [(0x0010, 0xC0)] } =
      [0x00, 0x00, 0x00, 0xFD, 0xA5, 0x8002, 5] ∧
    ramAfter { machine [0x06, 0x10] with ram := [(0x0010, 0xC0)] } [0x0010] =
      [0x80] := by decide

/-- V88: LSR A: bit 0 to C, N always 0. -/
theorem test_lsr_v88 :
    result { machine [0x4A] with a := 0x01, p := 0xA4 } =
      [0x00, 0x00, 0x00, 0xFD, 0x27, 0x8001, 2] := by decide

/-- V90: ROL A: C in to bit 0. -/
theorem test_rol_v90 :
    result { machine [0x2A] with a := 0x80, p := 0x25 } =
      [0x01, 0x00, 0x00, 0xFD, 0x25, 0x8001, 2] := by decide

/-- V92: ROL zp,X. -/
theorem test_rol_v92 :
    result { machine [0x36, 0x10] with x := 0x01, p := 0x24, ram := [(0x0011, 0xFF)] } =
      [0x00, 0x01, 0x00, 0xFD, 0xA5, 0x8002, 6] ∧
    ramAfter { machine [0x36, 0x10] with x := 0x01, p := 0x24, ram := [(0x0011, 0xFF)] } [0x0011] =
      [0xFE] := by decide

/-- V93: ROR A: C in to bit 7. -/
theorem test_ror_v93 :
    result { machine [0x6A] with a := 0x00, p := 0x25 } =
      [0x80, 0x00, 0x00, 0xFD, 0xA4, 0x8001, 2] := by decide

/-- V95: ROR abs,X. -/
theorem test_ror_v95 :
    result { machine [0x7E, 0x00, 0x03] with x := 0x02, p := 0x25, ram := [(0x0302, 0x03)] } =
      [0x00, 0x02, 0x00, 0xFD, 0xA5, 0x8003, 7] ∧
    ramAfter { machine [0x7E, 0x00, 0x03] with x := 0x02, p := 0x25, ram := [(0x0302, 0x03)] } [0x0302] =
      [0x81] := by decide

/-- V96: JMP abs. -/
theorem test_jmp_v96 :
    result (machine [0x4C, 0x05, 0x80]) =
      [0x00, 0x00, 0x00, 0xFD, 0x24, 0x8005, 3] := by decide

/-- V99: JMP (ind) pointer at page end: high byte from 0x0200. -/
theorem test_jmp_v99 :
    result { machine [0x6C, 0xFF, 0x02] with ram := [(0x0200, 0x90), (0x0300, 0x40)] } =
      [0x00, 0x00, 0x00, 0xFD, 0x24, 0x9000, 5] := by decide

/-- V101: JSR from 0x80FE: pushes 0x8100. -/
theorem test_jsr_v101 :
    result (machineAt 0x80FE [0x20, 0x00, 0x90]) =
      [0x00, 0x00, 0x00, 0xFB, 0x24, 0x9000, 6] ∧
    ramAfter (machineAt 0x80FE [0x20, 0x00, 0x90]) [0x01FD, 0x01FC] =
      [0x81, 0x00] := by decide

/-- V103: RTS pulled 0xFFFF returns to 0x0000. -/
theorem test_rts_v103 :
    result { machine [0x60] with sp := 0xFB, ram := [(0x01FC, 0xFF), (0x01FD, 0xFF)] } =
      [0x00, 0x00, 0x00, 0xFD, 0x24, 0x0000, 6] := by decide

/-- V105: RTI ignores bits 5, 4 of pulled P. -/
theorem test_rti_v105 :
    result { machine [0x40] with sp := 0xFA, ram := [(0x01FB, 0x10), (0x01FD, 0x80)] } =
      [0x00, 0x00, 0x00, 0xFD, 0x20, 0x8000, 6] := by decide

/-- V107: BRK with P = 0xE1. -/
theorem test_brk_v107 :
    result { machine [0x00] with p := 0xE1, cart := { Cartridge.empty with prg := [(0x3FFF, 0x90)] } } =
      [0x00, 0x00, 0x00, 0xFA, 0xE5, 0x9000, 7] ∧
    ramAfter { machine [0x00] with p := 0xE1, cart := { Cartridge.empty with prg := [(0x3FFF, 0x90)] } } [0x01FB] =
      [0xF1] := by decide

/-- V108: BPL taken, same page. -/
theorem test_bpl_v108 :
    result { machine [0x10, 0x05] with p := 0x24 } =
      [0x00, 0x00, 0x00, 0xFD, 0x24, 0x8007, 3] := by decide

/-- V110: BMI to itself. -/
theorem test_bmi_v110 :
    result { machine [0x30, 0xFE] with p := 0xA4 } =
      [0x00, 0x00, 0x00, 0xFD, 0xA4, 0x8000, 3] := by decide

/-- V111: BVC taken, crosses to next page. -/
theorem test_bvc_v111 :
    result { machineAt 0x80F0 [0x50, 0x20] with p := 0x24 } =
      [0x00, 0x00, 0x00, 0xFD, 0x24, 0x8112, 4] := by decide

/-- V113: BVS taken. -/
theorem test_bvs_v113 :
    result { machine [0x70, 0x10] with p := 0x64 } =
      [0x00, 0x00, 0x00, 0xFD, 0x64, 0x8012, 3] := by decide

/-- V114: BCC taken, offset -128, crosses back. -/
theorem test_bcc_v114 :
    result { machine [0x90, 0x80] with p := 0x24 } =
      [0x00, 0x00, 0x00, 0xFD, 0x24, 0x7F82, 4] := by decide

/-- V115: BCS taken, offset +127. -/
theorem test_bcs_v115 :
    result { machine [0xB0, 0x7F] with p := 0x25 } =
      [0x00, 0x00, 0x00, 0xFD, 0x25, 0x8081, 3] := by decide

/-- V118: BEQ not taken. -/
theorem test_beq_v118 :
    result { machine [0xF0, 0x00] with p := 0x24 } =
      [0x00, 0x00, 0x00, 0xFD, 0x24, 0x8002, 2] := by decide

/-- V119: BNE at 0x80FE, offset -2: pc page (0x81) differs from target page (0x80). -/
theorem test_bne_v119 :
    result { machineAt 0x80FE [0xD0, 0xFE] with p := 0x24 } =
      [0x00, 0x00, 0x00, 0xFD, 0x24, 0x80FE, 4] := by decide

/-- V120: CLC. -/
theorem test_clc_v120 :
    result { machine [0x18] with p := 0x25 } =
      [0x00, 0x00, 0x00, 0xFD, 0x24, 0x8001, 2] := by decide

/-- V121: SEC. -/
theorem test_sec_v121 :
    result { machine [0x38] with p := 0x24 } =
      [0x00, 0x00, 0x00, 0xFD, 0x25, 0x8001, 2] := by decide

/-- V122: CLI. -/
theorem test_cli_v122 :
    result { machine [0x58] with p := 0x24 } =
      [0x00, 0x00, 0x00, 0xFD, 0x20, 0x8001, 2] := by decide

/-- V123: SEI. -/
theorem test_sei_v123 :
    result { machine [0x78] with p := 0x20 } =
      [0x00, 0x00, 0x00, 0xFD, 0x24, 0x8001, 2] := by decide

/-- V124: CLV. -/
theorem test_clv_v124 :
    result { machine [0xB8] with p := 0x64 } =
      [0x00, 0x00, 0x00, 0xFD, 0x24, 0x8001, 2] := by decide

/-- V125: CLD. -/
theorem test_cld_v125 :
    result { machine [0xD8] with p := 0x2C } =
      [0x00, 0x00, 0x00, 0xFD, 0x24, 0x8001, 2] := by decide

/-- V126: SED. -/
theorem test_sed_v126 :
    result { machine [0xF8] with p := 0x24 } =
      [0x00, 0x00, 0x00, 0xFD, 0x2C, 0x8001, 2] := by decide

/-- V127: NOP. -/
theorem test_nop_v127 :
    result { machine [0xEA] with a := 0x12, x := 0x34, y := 0x56, p := 0xE7 } =
      [0x12, 0x34, 0x56, 0xFD, 0xE7, 0x8001, 2] := by decide

/-! ## Vectors of section 3: faults, bus, PPU -/

/-- E1: the tick that meets an illegal opcode counts. -/
theorem test_illegal_opcode_e1 :
    (match step (machine [0x02]) with
      | .next t => [(t.halted == some ⟨0x02, 0x8000⟩), t.pc == 0x8000, t.cycles == 0, t.pending == 0, t.master == 1]
      | _ => []) = [true, true, true, true, true] := by decide

/-- E1's later ticks. -/
theorem test_halted_e1 :
    step { State.reset with halted := some ⟨0x02, 0x8000⟩, master := 1 } = .fault (.illegalOpcode 0x02 0x8000) := by rfl

/-- E5: the host's reset clears the halt. -/
theorem test_reset_after_halt_e5 :
    (hostReset { machine [0x02] with halted := some ⟨0x02, 0x8000⟩, master := 1 }).halted = none := by decide

/-- P5's AddressError: a store to absent SRAM is dropped and recorded (R50, R272). -/
theorem test_absent_sram_store :
    step { machine [0x8D, 0x00, 0x60] with a := 0x42 } =
      .next { machine [0x8D, 0x00, 0x60] with
        a := 0x42, pc := 0x8003, pending := 3, cycles := 1, master := 1, addrErrorCount := 1
        addrError := some ⟨0x6000, .write⟩ } := rfl

/-- R286: NMI entry from 0x8012 with P 0x61 pushes 0x80, 0x12 and 0x61; the vector's high byte is PRG's at 0x3FFB. -/
theorem test_nmi_entry :
    step { State.reset with
        pc := 0x8012, p := 0x61, nmiLatch := true
        cart := { Cartridge.empty with prg := [(0x3FFB, 0x90)] } } =
      .next { State.reset with
        pc := 0x9000, p := 0x65, sp := 0xFA, pending := 6, cycles := 1, master := 1
        ram := [(0x01FB, 0x61), (0x01FC, 0x12), (0x01FD, 0x80)]
        cart := { Cartridge.empty with prg := [(0x3FFB, 0x90)] } } := rfl

/-- V2 as the first instruction after reset. -/
theorem test_with_fetch_word : result (State.reset.withFetchWord 16 0x80A9) = [0x80, 0, 0, 0xFD, 0xA4, 0x0002, 2] := by decide

/-- A row of the PPU port vectors: the reads' values, and the state after. -/
def ports : List (Nat × Option Byte) → State → List Nat × State
  | [], s => ([], s)
  | (r, some b) :: l, s => ports l (ppuRegWrite r b s)
  | (r, none) :: l, s =>
    let v := ppuRegRead r s
    let q := ports l v.2
    (v.1.toNat :: q.1, q.2)

/-- M1 to M1c: the address pair, the data port's increment and its buffered reads. -/
theorem test_data_port_m1 :
    let r := ports [(2, none), (6, some 0x21), (6, some 0x08), (7, some 0xAB), (7, some 0xCD), (6, some 0x21),
      (6, some 0x08), (7, none), (7, none), (7, none)] State.reset
    r.1 = [0x00, 0x00, 0xAB, 0xCD] ∧ r.2.vram = [(0x108, 0xAB), (0x109, 0xCD)] ∧ r.2.ppu.vaddr = 0x210B := by decide

/-- M3 to M3d: palette mirrors, unbuffered palette reads, the address wrap. -/
theorem test_palette_m3 :
    let r := ports [(6, some 0x3F), (6, some 0x10), (7, some 0x2A), (6, some 0x3F), (6, some 0x00), (7, none),
      (6, some 0x3F), (6, some 0x24), (7, some 0x15), (6, some 0x3F), (6, some 0xFF), (7, some 0x77)] State.reset
    r.1 = [0x2A] ∧ r.2.pal = [(0x00, 0x2A), (0x04, 0x15), (0x1F, 0x77)] ∧ r.2.ppu.vaddr = 0x0000 := by decide

/-- M5, M5b: the scroll pair with both table bits of the control register. -/
theorem test_scroll_m5 :
    let r := ports [(0, some 0x03), (5, some 0x10), (5, some 0xF8)] State.reset
    r.2.ppu.xScroll = 272 ∧ r.2.ppu.yScroll = 8 ∧ r.2.ppu.w = false := by decide

/-- M6: one toggle for both pairs. -/
theorem test_shared_toggle_m6 :
    let r := ports [(5, some 0x08), (6, some 0x21), (6, some 0x3F)] State.reset
    r.2.ppu.xScroll = 8 ∧ r.2.ppu.vaddr = 0x3F21 ∧ r.2.ppu.w = true := by decide

/-- M7: OAM data writes advance the address and wrap, reads do not. -/
theorem test_oam_m7 :
    let r := ports [(3, some 0xFE), (4, some 0x11), (4, some 0x22), (4, some 0x33), (4, none)] State.reset
    r.1 = [0x00] ∧ r.2.oam = [(0x00, 0x33), (0xFE, 0x11), (0xFF, 0x22)] ∧ r.2.ppu.oamAddr = 0x01 := by decide

/-- The set-up of the pixel vectors. -/
def pixelMachine : State :=
  { State.reset with
    ppu := { Ppu.reset with ctrl := 0x10, xScroll := 276, yScroll := 13 }
    vram := [(0x443, 0x02), (0x7C0, 0xC0)]
    pal := [(0x00, 0x0F), (0x0C, 0x30), (0x0D, 0x31), (0x0E, 0x32), (0x0F, 0x33)]
    cart := { Cartridge.empty with
      mirror := .vertical
      chr := [(0x1020, 0x80), (0x1021, 0x40), (0x1022, 0x20), (0x1023, 0x10), (0x1024, 0x08), (0x1025, 0x04), (0x1026, 0x02),
        (0x1027, 0x01), (0x102B, 0xFF)] } }

/-- PX1 to PX7. -/
theorem test_pixels :
    [(4, 3), (5, 4), (7, 6), (4, 6), (3, 6), (11, 10), (12, 10)].map (fun q => pixelByte q.1 q.2 pixelMachine) =
      [0x31, 0x31, 0x33, 0x32, 0x30, 0x31, 0x0F] := by decide

/-! ## Witnesses: a state and operands that meet the hypotheses of each statement that has some -/

theorem test_witness_DecodeEncodeRoundTrip : (Instr.ldaAbs 0x1234).wf = true := by decide

theorem test_witness_DecodedBytesAreTheEncoding : decode [0xAD, 0x34, 0x12, 0xEA] = .ok (.ldaAbs 0x1234, [0xEA]) := rfl

theorem test_witness_IllegalOpcodesRefused :
    decode [0x02] = .error (.illegalOpcode 0x02) ∧ (0x02 : Byte).toNat ∈ illegalOpcodes ∧
    (0xFF : Byte).toNat ∈ illegalOpcodes ∧ (0x00 : Byte).toNat ∉ illegalOpcodes := ⟨rfl, by decide⟩

theorem test_witness_StepRunsDecodedInstruction :
    let s := machine [0xA9, 0x80]
    let i := Instr.ldaImm 0x80
    atFetch s = true ∧ (fetchBytes i.length s.pc (s.setCycles (s.cycles + 1))).1 = encode i := by decide

theorem test_witness_IllegalOpcodeHalts :
    atFetch (machine [0x02]) = true ∧ (busRead (machine [0x02]).pc (machine [0x02])).1.toNat ∈ illegalOpcodes := by decide

theorem test_witness_HaltedMachineFaults :
    ({ State.reset with halted := some ⟨0x02, 0x8000⟩ } : State).halted = some ⟨0x02, 0x8000⟩ := rfl

theorem test_witness_IdleStepOnlyCounts :
    let s := { State.reset with pending := 1 }
    s.halted = none ∧ s.master % 4 = 0 ∧ 0 < s.pending := by decide

theorem test_witness_NmiEntryEffect :
    let s := { State.reset with nmiLatch := true }
    s.halted = none ∧ s.master % 4 = 0 ∧ s.pending = 0 ∧ s.nmiLatch = true := by decide

/-- At the vblank edge (scanline 241, cycle 1), and one tick before a CPU step. -/
theorem test_witness_PpuTickFrameAndNmiRouting :
    let s := { State.reset with
      master := 3, ppu := { Ppu.reset with stage := .postRendering, scanline := 241, cycle := 1 } }
    s.halted = none ∧ s.master % 4 ≠ 0 := by decide

theorem test_witness_CpuTickLeavesPpuPositionAndFrame :
    (machine [0xEA]).master % 4 = 0 ∧
    step (machine [0xEA]) = .next { machine [0xEA] with pc := 0x8001, pending := 1, cycles := 1, master := 1 } :=
  ⟨rfl, rfl⟩

theorem test_witness_CartridgeAndParametersFixed :
    runs 1 (machine [0xEA]) { machine [0xEA] with pc := 0x8001, pending := 1, cycles := 1, master := 1 } := ⟨_, rfl, rfl⟩

theorem test_witness_StepKeepsInvariant :
    Invariant State.reset = true ∧
    step { State.reset with pc := 0x8000, cart := { Cartridge.empty with prg := [(0, 0xEA)] } } =
      .next { State.reset with
        pc := 0x8001, pending := 1, cycles := 1, master := 1, cart := { Cartridge.empty with prg := [(0, 0xEA)] } } ∧
    Invariant { State.reset with pc := 0x8000, cart := { Cartridge.empty with prg := [(0, 0xEA)] } } = true ∧
    launchOk { State.reset with pc := 0x8000, cart := { Cartridge.empty with prg := [(0, 0xEA)] } } = true :=
  ⟨by decide, rfl, by decide, by decide⟩

/-- The one step after which a launch premise fails starts from all of them. -/
theorem test_witness_StepKeepsInvariant_halt :
    launchOk (machine [0x02]) = true ∧ atFetch (machine [0x02]) = true ∧
    (busRead (machine [0x02]).pc (machine [0x02])).1.toNat ∈ illegalOpcodes := by decide

/-- A halted machine meets the invariant and not the launch premises (R34). -/
theorem test_launch_premises_of_halted :
    launchOk { State.reset with halted := some ⟨0x02, 0x8000⟩ } = false ∧
    Invariant { State.reset with halted := some ⟨0x02, 0x8000⟩ } = true := by decide

/-- Two PRG units and SRAM, every memory with its highest cell listed. -/
theorem test_witness_PowerOnValues :
    let c := { Cartridge.empty with prgUnits := 2, prg := [(32767, 0x80)], hasSram := true }
    cartOk c = true ∧ memoryOk [(2047, 0x01)] 2048 = true ∧ memoryOk [(255, 0x01)] 256 = true ∧
    memoryOk [(31, 0x01)] 32 = true ∧ memoryOk [(61439, 0x01)] 61440 = true ∧ memoryOk [(8191, 0x01)] 8192 = true := by
  decide

theorem test_witness_HostResetAndTakeFrame : 255 < 256 ∧ 239 < 240 := by decide

/-- An image of one PRG and one CHR unit whose flags-6 byte is `f`, with `n` payload bytes: X1 and X2 of section 1 have 24576. -/
def image (f : Byte) (n : Nat) : List Byte :=
  [0x4E, 0x45, 0x53, 0x1A, 0x01, 0x01, f, 0, 0, 0, 0, 0, 0, 0, 0, 0] ++ List.replicate n 0x00

theorem image_length (f : Byte) (n : Nat) : (image f n).length = n + 16 := by simp [image]

/-- The header bytes the conditions of R316 to R318 look at. -/
theorem image_bytes (f : Byte) (n : Nat) :
    (image f n).getD 0 0 = 0x4E ∧ (image f n).getD 1 0 = 0x45 ∧ (image f n).getD 2 0 = 0x53 ∧ (image f n).getD 3 0 = 0x1A ∧
    (image f n).getD 4 0 = 0x01 ∧ (image f n).getD 5 0 = 0x01 ∧ (image f n).getD 6 0 = f ∧ (image f n).getD 7 0 = 0 :=
  ⟨rfl, rfl, rfl, rfl, rfl, rfl, rfl, rfl⟩

/-- The three clauses: an image with no byte, X2's image (SRAM), and the same with mapper 1. -/
theorem test_witness_LoadRomResult (n : Nat) (hn : n = 24576) :
    (([] : List Byte).length < 16) ∧
    (let b := fun k => ((image 0x02 n).getD k 0).toNat
     ¬ ((image 0x02 n).length < 16 ∨ ¬ (b 0 = 0x4E ∧ b 1 = 0x45 ∧ b 2 = 0x53 ∧ b 3 = 0x1A) ∨ ¬ (b 4 = 1 ∨ b 4 = 2) ∨ b 5 = 0 ∨
      (image 0x02 n).length < 16 + (if b 6 / 4 % 2 = 1 then 512 else 0) + 16384 * b 4 + 8192 * b 5) ∧
     b 7 / 16 * 16 + b 6 / 16 = 0) ∧
    (let b := fun k => ((image 0x10 n).getD k 0).toNat
     ¬ ((image 0x10 n).length < 16 ∨ ¬ (b 0 = 0x4E ∧ b 1 = 0x45 ∧ b 2 = 0x53 ∧ b 3 = 0x1A) ∨ ¬ (b 4 = 1 ∨ b 4 = 2) ∨ b 5 = 0 ∨
      (image 0x10 n).length < 16 + (if b 6 / 4 % 2 = 1 then 512 else 0) + 16384 * b 4 + 8192 * b 5) ∧
     b 7 / 16 * 16 + b 6 / 16 ≠ 0) := by
  simp only [image_length, image_bytes]
  subst hn
  decide

theorem test_witness_OnlyControlTransfersWritePc :
    Instr.nop.row.mnemonic ∉ [Mnemonic.jmp, .jsr, .rts, .rti, .brk, .bpl, .bmi, .bvc, .bvs, .bcc, .bcs, .bne, .beq] := by decide

/-- NOP meets the hypothesis of every clause. -/
theorem test_witness_FlagAndStackPointerWriters :
    State.reset.p &&& 0x30 = 0x20 ∧
    Instr.nop.row.mnemonic ∉ [Mnemonic.adc, .sbc, .bit, .clv, .plp, .rti, .sed, .cld, .sei, .cli, .brk, .cmp, .cpx, .cpy, .asl,
      .lsr, .rol, .ror, .sec, .clc, .txs, .pha, .php, .pla, .jsr, .rts] ∧
    Instr.nop.row.mnemonic ∈ [Mnemonic.sta, .stx, .sty, .txs, .pha, .php, .jmp, .jsr, .rts, .brk, .bpl, .bmi, .bvc, .bvs, .bcc,
      .bcs, .bne, .beq, .clc, .sec, .cli, .sei, .clv, .cld, .sed, .nop] := by decide

theorem test_witness_NonStoringInstructionsKeepMemory :
    Instr.nop.row.mnemonic ∉ [Mnemonic.sta, .stx, .sty, .inc, .dec, .pha, .php, .jsr, .brk, .asl, .lsr, .rol, .ror] ∧
    Instr.aslAcc.row.mode = .acc := by decide

theorem test_witness_LoadResult :
    [Instr.ldaIndy 0xFF, .ldxImm 0x00, .ldyAbsx 0xFFFF].all
      (fun i => [Mnemonic.lda, .ldx, .ldy].contains i.row.mnemonic) = true := by decide

/-- The address STA absolute stores to, at the ends of every clause. -/
theorem test_witness_StoreEffect :
    ((Instr.staAbs 0x0000).row.mnemonic ∈ [Mnemonic.sta, .stx, .sty]) ∧
    [0x0000, 0x1FFF, 0x2000, 0x3FFF, 0x4000, 0x4013, 0x4014, 0x4015, 0x5FFF, 0x6000, 0x7FFF, 0x8000, 0xFFFF].all
      (fun a => memOf (.staAbs (BitVec.ofNat 16 a)) == some (.abs (BitVec.ofNat 16 a)) &&
        ea (.abs (BitVec.ofNat 16 a)) State.reset == a) = true ∧
    State.reset.params.oamDmaEnable = false ∧ State.reset.cart.hasSram = false ∧
    ({ State.reset with params := { Params.default with oamDmaEnable := true } } : State).params.oamDmaEnable = true ∧
    ({ State.reset with cart := { Cartridge.empty with hasSram := true } } : State).cart.hasSram = true := by decide

/-- The PPU window's data port, whose address a read-modify-write advances first (R165); the ends of the two ranges behind it. -/
theorem test_witness_StoringInstructionFrame_ports :
    (Instr.incAbs 0x3FFF).row.mnemonic ∈ writesEa ∧ memOf (.incAbs 0x3FFF) = some (.abs 0x3FFF) ∧
    memOf (.staAbs 0x2004) = some (.abs 0x2004) ∧ 0x3FFF % 8 = 7 ∧ 0x2004 % 8 = 4 ∧
    dataAddr (.incAbs 0x3FFF) { State.reset with ppu := { Ppu.reset with vaddr := 0x3EFF } } = 0x3F00 ∧
    dataAddr (.incAbs 0x3FFF) { State.reset with ppu := { Ppu.reset with vaddr := 0x3EFE } } = 0x3EFF ∧
    dataAddr (.staAbs 0x2007) { State.reset with ppu := { Ppu.reset with vaddr := 0x2000 } } = 0x2000 := by decide

/-- INC in RAM's last cell, STA at SRAM's last; both outside the PPU window and away from 0x4014. -/
theorem test_witness_StoringInstructionFrame :
    (Instr.incAbs 0x07FF).row.mnemonic ∈ writesEa ∧ memOf (.incAbs 0x07FF) = some (.abs 0x07FF) ∧
    (Instr.staAbs 0x7FFF).row.mnemonic ∈ writesEa ∧ memOf (.staAbs 0x7FFF) = some (.abs 0x7FFF) ∧
    ea (.abs 0x07FF) State.reset = 0x07FF ∧ ea (.abs 0x7FFF) State.reset = 0x7FFF ∧ ea (.abs 0x4014) State.reset = 0x4014 ∧
    State.reset.params.oamDmaEnable = false := by decide

theorem test_witness_AdcResult : (Instr.adcAbs 0x0000).row.mnemonic = .adc := rfl

theorem test_witness_SbcResult : (Instr.sbcIndx 0xFF).row.mnemonic = .sbc := rfl

theorem test_witness_DecimalFlagIgnored : (Instr.adcImm 0x09).row.mnemonic = .adc ∧ (Instr.sbcImm 0x09).row.mnemonic = .sbc :=
  ⟨rfl, rfl⟩

theorem test_witness_LogicResult :
    [Instr.andImm 0xFF, .oraZp 0x00, .eorAbsx 0x1234].all
      (fun i => [Mnemonic.and, .ora, .eor].contains i.row.mnemonic) = true ∧ 7 < 8 := by decide

theorem test_witness_CompareResult :
    [Instr.cmpImm 0x00, .cpxZp 0xFF, .cpyAbs 0xFFFF].all
      (fun i => [Mnemonic.cmp, .cpx, .cpy].contains i.row.mnemonic) = true := by decide

theorem test_witness_BitResult : (Instr.bitAbs 0x2002).row.mnemonic = .bit := rfl

theorem test_witness_IncDecMemory : (Instr.incZp 0x00).row.mnemonic = .inc ∧ (Instr.decAbsx 0x2007).row.mnemonic = .dec :=
  ⟨rfl, rfl⟩

theorem test_witness_ShiftAccumulator : Instr.rorAcc.row.mode = .acc := rfl

theorem test_witness_ShiftMemory :
    (Instr.rolZp 0x00).row.mnemonic ∈ [Mnemonic.asl, .lsr, .rol, .ror] ∧ (Instr.rolZp 0x00).row.mode ≠ .acc := by decide

theorem test_witness_BranchResult : (Instr.bne 0x80).row.mode = .rel ∧ (Instr.bpl 0x7F).row.mode = .rel := ⟨rfl, rfl⟩

theorem test_witness_FlagInstructionResult :
    [Instr.clc, .sec, .cli, .sei, .clv, .cld, .sed, .nop].map (fun i => flagEffect i.row.mnemonic 0xFF) =
      [some 0xFE, some 0xFF, some 0xFB, some 0xFF, some 0xBF, some 0xF7, some 0xFF, some 0xFF] := by decide

/-- Every RAM cell but two. -/
theorem test_witness_JsrThenRtsReturns : 0x01FB ≠ stackIndex 0xFD 0 ∧ 0x01FB ≠ stackIndex 0xFD 255 := by decide

theorem test_witness_BrkThenRtiReturns : State.reset.p &&& 0x30 = 0x20 := by decide

/-- The clauses on a read's value, at both ends of each window. -/
theorem test_witness_BusReadSideEffects_values :
    (0x1FFF : Addr).toNat < 0x2000 ∧ 0x2000 ≤ (0x2000 : Addr).toNat ∧ (0x3FFF : Addr).toNat < 0x4000 ∧
    0x6000 ≤ (0x6000 : Addr).toNat ∧ (0x7FFF : Addr).toNat < 0x8000 ∧
    ({ State.reset with cart := { Cartridge.empty with hasSram := true } } : State).cart.hasSram = true := by decide

/-- The clauses on side effects, at both ends of each window. -/
theorem test_witness_BusReadSideEffects :
    (0x2002 : Addr) &&& 0xE007 = 0x2002 ∧ (0x3FFA : Addr) &&& 0xE007 = 0x2002 ∧
    (0x2007 : Addr) &&& 0xE007 = 0x2007 ∧ (0x3FFF : Addr) &&& 0xE007 = 0x2007 ∧
    0x6000 ≤ (0x7FFF : Addr).toNat ∧ (0x7FFF : Addr).toNat < 0x8000 ∧ State.reset.cart.hasSram = false ∧
    [0x0000, 0x1FFF, 0x2000, 0x4000, 0x5FFF, 0x8000, 0xFFFF].all (fun a : Addr => a &&& 0xE007 != 0x2002 &&
      a &&& 0xE007 != 0x2007 && !(decide (0x6000 ≤ a.toNat) && decide (a.toNat < 0x8000))) = true := by decide

theorem test_witness_RamReadAfterWrite :
    (0x1FFF : Addr).toNat < 0x2000 ∧ (0x07FF : Addr).toNat < 0x2000 ∧
    (0x1FFF : Addr).toNat % 0x800 = (0x07FF : Addr).toNat % 0x800 := by decide

theorem test_witness_StubOpenBusAndPrgWindows :
    0x4000 ≤ (0x4000 : Addr).toNat ∧ (0x5FFF : Addr).toNat < 0x6000 ∧ (0x4016 : Addr).toNat ≠ 0x4014 ∧
    0x8000 ≤ (0x8000 : Addr).toNat ∧ State.reset.cart.prgUnits = 1 ∧
    ({ State.reset with cart := { Cartridge.empty with prgUnits := 2 } } : State).cart.prgUnits = 2 := by decide

theorem test_witness_SramWindow :
    0x6000 ≤ (0x6000 : Addr).toNat ∧ (0x7FFF : Addr).toNat < 0x8000 ∧ State.reset.cart.hasSram = false ∧
    ({ State.reset with cart := { Cartridge.empty with hasSram := true } } : State).cart.hasSram = true := by decide

theorem test_witness_OamDmaTransfer :
    State.reset.params.oamDmaEnable = false ∧
    ({ State.reset with params := { Params.default with oamDmaEnable := true } } : State).params.oamDmaEnable = true ∧
    (0x1F : Byte).toNat < 0x20 ∧ 255 < 256 := by decide

/-- The pages whose reads have no side effect, at the ends of their ranges; the PPU window's are none of them. -/
theorem test_witness_OamDmaTransfer_pages :
    quietPage 0x1F State.reset ∧ ¬ quietPage 0x20 State.reset ∧ ¬ quietPage 0x3F State.reset ∧ quietPage 0x40 State.reset ∧
    quietPage 0x5F State.reset ∧ ¬ quietPage 0x60 State.reset ∧ ¬ quietPage 0x7F State.reset ∧ quietPage 0x80 State.reset ∧
    quietPage 0xFF State.reset ∧ quietPage 0x60 { State.reset with cart := { Cartridge.empty with hasSram := true } } ∧
    0x60 ≤ (0x60 : Byte).toNat ∧ (0x7F : Byte).toNat < 0x80 ∧ State.reset.cart.hasSram = false := by
  unfold quietPage
  decide

theorem test_witness_StatusAndWriteOnlyPorts : 0 ∈ [0, 1, 3, 5, 6] ∧ 6 ∈ [0, 1, 3, 5, 6] := by decide

theorem test_witness_ScrollAndAddressPairs : State.reset.ppu.w = false := rfl

/-- The ends of the data port's three ranges. -/
theorem test_witness_DataPort :
    [0x0000, 0x1FFF, 0x2000, 0x3EFF, 0x3F00, 0x3FFF].map
      (fun a => ({ State.reset with ppu := { Ppu.reset with vaddr := a } } : State).ppu.vaddr.toNat) =
      [0, 8191, 8192, 16127, 16128, 16383] := by decide

theorem test_witness_NametableAndPaletteMirrors :
    3 < 4 ∧ 1023 < 1024 ∧ 0x3000 ≤ 0x3EFF ∧ 0x3EFF < 0x3F00 ∧ 0x11 % 4 ≠ 0 ∧ 0x1C % 4 = 0 := by decide

/-- The last cycle of a scanline and the one before it; the short PreRendering. -/
theorem test_witness_PpuPositionAdvance :
    let line := { Ppu.reset with stage := .rendering, scanline := 239, cycle := 340 }
    let short := { Ppu.reset with parity := true, mask := 0x18, cycle := 338 }
    timingOk line = true ∧ 340 ≤ line.cycle ∧ timingOk { line with cycle := 339 } = true ∧ 339 < 340 ∧
    timingOk short = true ∧ (short.parity && short.mask.getLsbD 3 && short.mask.getLsbD 4) = true ∧ 338 ≤ short.cycle := by
  decide

theorem test_witness_FrameLengthAndOneEdge :
    State.reset.ppu.stage = .preRendering ∧ State.reset.ppu.scanline = 261 ∧ State.reset.ppu.cycle = 0 := ⟨rfl, rfl, rfl⟩

theorem test_witness_PixelWrites :
    let s := { State.reset with ppu := { Ppu.reset with stage := .rendering, scanline := 239, cycle := 256 } }
    (s.ppu.stage = .rendering ∧ 1 ≤ s.ppu.cycle ∧ s.ppu.cycle ≤ 256) ∧
    ¬ (State.reset.ppu.stage = .rendering ∧ 1 ≤ State.reset.ppu.cycle ∧ State.reset.ppu.cycle ≤ 256) := by decide

/-- PX1's position, and the last of the plane. -/
theorem test_witness_PixelFromTables :
    (4 + pixelMachine.ppu.xScroll) % 512 = 256 * (1 % 2) + 8 * 3 + 0 ∧
    (3 + pixelMachine.ppu.yScroll) % 480 = 240 * (1 / 2) + 8 * 2 + 0 ∧
    (235 + pixelMachine.ppu.xScroll) % 512 = 256 * (3 % 2) + 8 * 31 + 7 ∧
    (466 + pixelMachine.ppu.yScroll) % 480 = 240 * (3 / 2) + 8 * 29 + 7 := by decide

end Sys2Proof.Tests
end

section
/-! SUPPORT. What the decoder's table, a fetch and a step can do, said once: which opcode bytes have a length, that a complete
row always decodes, what a fetch finds, and the five kinds of step. -/

namespace Sys2Proof

/-- The bytes without a table row are R100's 105. -/
theorem opcodeLength_eq_none_iff (op : Byte) : opcodeLength op = none ↔ op.toNat ∈ illegalOpcodes := by
  have table : ∀ h l : Fin 16,
      opcodeLength (BitVec.ofNat 8 (h * 16 + l)) = none ↔ h.val * 16 + l.val ∈ illegalOpcodes := by decide
  have hlt := op.isLt
  have e : op.toNat / 16 * 16 + op.toNat % 16 = op.toNat := by omega
  have h := table ⟨op.toNat / 16, by omega⟩ ⟨op.toNat % 16, by omega⟩
  simpa only [e, BitVec.ofNat_toNat, BitVec.setWidth_eq] using h

/-- An instruction's length depends on its opcode byte alone (R84). -/
theorem ofOpcode_length (op b1 b2 : Byte) : (ofOpcode op b1 b2).map Instr.length = opcodeLength op := by
  unfold opcodeLength ofOpcode
  split <;> rfl

/-- An opcode byte of the table with its operand bytes decodes. -/
theorem decode_of_opcodeLength {op : Byte} {n : Nat} {bs : List Byte} (h : opcodeLength op = some n)
    (hl : bs.length = n - 1) : ∃ i, decode (op :: bs) = .ok (i, bs.drop (n - 1)) := by
  have hi := ofOpcode_length op (bs.getD 0 0) (bs.getD 1 0)
  rw [h, Option.map_eq_some_iff] at hi
  obtain ⟨i, hi, -⟩ := hi
  have hn : ¬ bs.length + 1 < n := by omega
  exact ⟨i, by simp only [decode, h, hn, if_false, hi]⟩

namespace Machine

@[simp] theorem fetchBytes_length (n : Nat) (a : Addr) (s : State) : (fetchBytes n a s).1.length = n := by
  induction n generalizing a s with
  | zero => rfl
  | succ n ih => simp [fetchBytes, ih]

@[simp] theorem fetchBytes_p (n : Nat) (a : Addr) (s : State) : (fetchBytes n a s).2.p = s.p := by
  induction n generalizing a s with
  | zero => rfl
  | succ n ih => simp [fetchBytes, ih]

/-- A fetch finds an illegal byte exactly when the opcode byte has no length, and then nothing but that byte is read (R271). -/
theorem fetch_of_illegal {s : State} (h : opcodeLength (busRead s.pc s).1 = none) :
    fetch s = .illegal (busRead s.pc s).1 (busRead s.pc s).2 := by
  simp only [fetch, h]

/-- Any other fetch finds an instruction, past which `pc` is advanced (R80). -/
theorem fetch_of_legal {s : State} {n : Nat} (h : opcodeLength (busRead s.pc s).1 = some n) :
    ∃ i, fetch s = .instr i
      ((fetchBytes (n - 1) (s.pc + 1) (busRead s.pc s).2).2.setPc (s.pc + BitVec.ofNat 16 n)) := by
  obtain ⟨i, hi⟩ := decode_of_opcodeLength h (fetchBytes_length (n - 1) (s.pc + 1) (busRead s.pc s).2)
  exact ⟨i, by simp only [fetch, h, hi]⟩

theorem ppuRegRead_setCycles (r : Nat) (c : BitVec 64) (s : State) :
    ppuRegRead r (s.setCycles c) = ((ppuRegRead r s).1, (ppuRegRead r s).2.setCycles c) := by
  unfold ppuRegRead readData
  dsimp only [State.setCycles_ppu]
  split_ifs <;> rfl

theorem readSram_setCycles (a : Addr) (c : BitVec 64) (s : State) :
    readSram a (s.setCycles c) = ((readSram a s).1, (readSram a s).2.setCycles c) := by
  unfold readSram
  rw [State.setCycles_cart]
  split_ifs <;> rfl

/-- A bus read neither consults nor changes the cycle count. -/
theorem busRead_setCycles (a : Addr) (c : BitVec 64) (s : State) :
    busRead a (s.setCycles c) = ((busRead a s).1, (busRead a s).2.setCycles c) := by
  unfold busRead
  rw [ppuRegRead_setCycles, readSram_setCycles]
  split_ifs <;> rfl

/-- The state in which a CPU step runs: its cycle is counted first. -/
def counted (s : State) : State := s.setCycles (s.cycles + 1)

/-- What a step that answers a next state is: one of the CPU's four steps on tick phase 0 (R290), or a PPU step on the other
phases (R296). -/
inductive StepCase (s : State) : State → Prop
  | idle (hmaster : s.master % 4 = 0) (hpending : 0 < s.pending) :
      StepCase s (countTick ((counted s).setPending (s.pending - 1)))
  | nmi (hmaster : s.master % 4 = 0) (hpending : s.pending = 0) (hlatch : s.nmiLatch = true) :
      StepCase s (countTick (nmiEntry (counted s)))
  | illegal (hfetch : atFetch s = true) (hop : (busRead s.pc s).1.toNat ∈ illegalOpcodes) :
      StepCase s (countTick (raiseIllegalOpcode (busRead s.pc s).1 s (busRead s.pc (counted s)).2))
  | instr {i : Instr} {u v : State} (hop : (busRead s.pc s).1.toNat ∉ illegalOpcodes)
      (hkeeps : Keeps (counted s) u) (hp : u.p = s.p) (hexec : exec i u = .next v) : StepCase s (countTick v)
  | ppu (hmaster : s.master % 4 ≠ 0) : StepCase s (countTick (ppuTick s))

theorem afterNext_eq_next {f : State → State} {o : Host.Outcome State Fault Refusal} {t : State}
    (h : afterNext f o = .next t) : ∃ u, o = .next u ∧ t = f u := by
  cases o with
  | next u => exact ⟨u, rfl, (Host.Outcome.next.inj h).symm⟩
  | fault r => cases h
  | refused r => cases h

/-- A fetch step that meets an illegal byte halts the machine (R271). -/
theorem fetchStep_of_illegal {s : State} (h : opcodeLength (busRead s.pc s).1 = none) :
    fetchStep s = .next (raiseIllegalOpcode (busRead s.pc s).1 s (busRead s.pc (counted s)).2) := by
  have hbyte : (busRead s.pc (counted s)).1 = (busRead s.pc s).1 := by rw [counted, busRead_setCycles]
  have hf : fetch (counted s) = _ := fetch_of_illegal (by rw [← h, ← hbyte]; rfl)
  unfold fetchStep
  rw [show fetch (s.setCycles (s.cycles + 1)) = _ from hf, ← hbyte]
  rfl

/-- Any other fetch step runs an instruction on the state with its bytes read (R80). -/
theorem fetchStep_of_legal {s : State} {n : Nat} (h : opcodeLength (busRead s.pc s).1 = some n) :
    ∃ i u, Keeps (counted s) u ∧ u.p = s.p ∧ fetchStep s = exec i u := by
  have hbyte : (busRead s.pc (counted s)).1 = (busRead s.pc s).1 := by rw [counted, busRead_setCycles]
  obtain ⟨i, hf⟩ := fetch_of_legal (s := counted s) (n := n) (by rw [← h, ← hbyte]; rfl)
  have hkeeps := (keeps_busRead (counted s).pc (counted s)).trans (keeps_fetchBytes (n - 1) ((counted s).pc + 1) _)
  refine ⟨i, _, hkeeps.trans (keeps_setPc ((counted s).pc + BitVec.ofNat 16 n) _), by simp [counted], ?_⟩
  unfold fetchStep
  rw [show fetch (s.setCycles (s.cycles + 1)) = _ from hf]

/-- A fetch step at an instruction boundary halts or runs an instruction. -/
theorem fetchStep_cases {s v : State} (hfetch : atFetch s = true) (h : fetchStep s = .next v) :
    StepCase s (countTick v) := by
  cases hlen : opcodeLength (busRead s.pc s).1 with
  | none =>
    rw [fetchStep_of_illegal hlen] at h
    cases h
    exact .illegal hfetch ((opcodeLength_eq_none_iff _).1 hlen)
  | some n =>
    obtain ⟨i, u, hkeeps, hp, hexec⟩ := fetchStep_of_legal hlen
    have hop : (busRead s.pc s).1.toNat ∉ illegalOpcodes := by simp [← opcodeLength_eq_none_iff, hlen]
    exact .instr hop hkeeps hp (hexec ▸ h)

/-- Every step that answers a next state starts from a running machine and is one of the five kinds. -/
theorem step_cases {s t : State} (h : step s = .next t) : s.halted = none ∧ StepCase s t := by
  unfold step tick at h
  cases hh : s.halted with
  | some r => simp [hh] at h
  | none =>
    refine ⟨rfl, ?_⟩
    simp only [hh] at h
    split_ifs at h with hm
    · obtain ⟨v, hv, rfl⟩ := afterNext_eq_next h
      unfold cpuStep at hv
      split_ifs at hv with hp hn
      · cases hv; exact .idle hm hp
      · cases hv; exact .nmi hm (by omega) hn
      · exact fetchStep_cases (by simp [atFetch, hh, hm, hn]; omega) hv
    · cases h; exact .ppu hm

end Machine
end Sys2Proof
end

section
/-! SUPPORT. Which bits of x[P] each instruction may write, and which instructions may write x[S]: one lemma for each shared
operation, then all instructions at once (spec/10_state.md R12, R14). -/

namespace Sys2Proof.Machine

/-- What an outcome's next state satisfies; no other outcome satisfies anything. -/
def NextSatisfies (P : State → Prop) : Host.Outcome State Fault Refusal → Prop
  | .next t => P t
  | .fault _ => False
  | .refused _ => False

/-- The flags the "written by" column of R14 lets a mnemonic write, as a mask; PLP and RTI write every bit but 5 and 4. -/
def writtenFlags : Mnemonic → Byte
  | .adc | .sbc => 0xC3
  | .bit => 0xC2
  | .cmp | .cpx | .cpy | .asl | .lsr | .rol | .ror => 0x83
  | .lda | .ldx | .ldy | .tax | .tay | .txa | .tya | .tsx | .pla | .and | .ora | .eor => 0x82
  | .inc | .inx | .iny | .dec | .dex | .dey => 0x82
  | .plp | .rti => 0xCF
  | .clv => 0x40
  | .sed | .cld => 0x08
  | .sei | .cli | .brk => 0x04
  | .sec | .clc => 0x01
  | .sta | .stx | .sty | .txs | .pha | .php | .jmp | .jsr | .rts | .nop => 0x00
  | .bpl | .bmi | .bvc | .bvs | .bcc | .bcs | .bne | .beq => 0x00

/-- The mnemonics that may write x[S] (R12). -/
def writesSp : Mnemonic → Bool
  | .txs | .pha | .php | .pla | .plp | .jsr | .rts | .rti | .brk => true
  | _ => false

/-- From `s` to `t` x[P] changes in the bits of `flags` only, and x[S] only if `sp` is true. -/
structure WritesOnly (flags : Byte) (sp : Bool) (s t : State) : Prop where
  p : t.p &&& ~~~flags = s.p &&& ~~~flags
  sp : sp = false → t.sp = s.sp

/-- Bits outside the written ones are as before. -/
theorem WritesOnly.p_and {flags q : Byte} {sp : Bool} {s t : State} (h : WritesOnly flags sp s t) (hq : flags &&& q = 0) :
    t.p &&& q = s.p &&& q := by
  have e : ~~~flags &&& q = q := by
    ext i hi
    have hi' : (flags[i] && q[i]) = false := by simpa using congrArg (fun b : Byte => b[i]) hq
    cases hf : flags[i] <;> cases hb : q[i] <;> simp_all
  rw [← e, ← BitVec.and_assoc, h.p, BitVec.and_assoc]

theorem WritesOnly.of_eq {sp : Bool} {s t : State} (hp : t.p = s.p) (hsp : sp = false → t.sp = s.sp) :
    WritesOnly 0x00 sp s t :=
  ⟨by rw [hp], hsp⟩

theorem WritesOnly.of_nz {v : Byte} {sp : Bool} {s t : State} (hp : t.p = nz v s.p) (hsp : sp = false → t.sp = s.sp) :
    WritesOnly 0x82 sp s t :=
  ⟨by rw [hp, nz_and (by decide)], hsp⟩

/-! ## The flag computations -/

theorem adcFlags_and (a m p : Byte) : adcFlags a m p &&& ~~~0xC3 = p &&& ~~~0xC3 := by
  simp only [adcFlags, nz_and (q := ~~~0xC3) (by decide), withV, withC, withBit_and (mask := 0x40) (q := ~~~0xC3) (by decide),
    withBit_and (mask := 0x01) (q := ~~~0xC3) (by decide)]

theorem compareFlags_and (r m p : Byte) : compareFlags r m p &&& ~~~0x83 = p &&& ~~~0x83 := by
  simp only [compareFlags, nz_and (q := ~~~0x83) (by decide), withC, withBit_and (mask := 0x01) (q := ~~~0x83) (by decide)]

theorem shiftFlags_and (r : Byte × Bool) (p : Byte) : shiftFlags r p &&& ~~~0x83 = p &&& ~~~0x83 := by
  simp only [shiftFlags, nz_and (q := ~~~0x83) (by decide), withC, withBit_and (mask := 0x01) (q := ~~~0x83) (by decide)]

theorem bitFlags_and (a m p : Byte) : bitFlags a m p &&& ~~~0xC2 = p &&& ~~~0xC2 := by
  simp only [bitFlags, withV, withN, withZ, withBit_and (mask := 0x40) (q := ~~~0xC2) (by decide),
    withBit_and (mask := 0x80) (q := ~~~0xC2) (by decide), withBit_and (mask := 0x02) (q := ~~~0xC2) (by decide)]

theorem pulledStatus_and_not {p : Byte} (h : p &&& 0x30 = 0x20) (v : Byte) : pulledStatus v &&& ~~~0xCF = p &&& ~~~0xCF := by
  rw [show (~~~0xCF : Byte) = 0x30 from rfl, pulledStatus_and, h]

/-! ## Registers -/

@[simp] theorem setReg_p (r : Reg) (v : Byte) (s : State) : (setReg r v s).p = s.p := by cases r <;> rfl

theorem setReg_sp {r : Reg} (h : r ≠ .s) (v : Byte) (s : State) : (setReg r v s).sp = s.sp := by
  cases r with
  | s => exact absurd rfl h
  | _ => rfl

@[simp] theorem setNZ_sp (v : Byte) (s : State) : (setNZ v s).sp = s.sp := rfl
@[simp] theorem charge_p (n : Nat) (s : State) : (charge n s).p = s.p := rfl
@[simp] theorem charge_sp (n : Nat) (s : State) : (charge n s).sp = s.sp := rfl

/-! ## The instruction families' shared operations -/

theorem writesOnly_loadReg {r : Reg} (hr : r ≠ .s) (o : Src) (t : Timing) (s : State) :
    WritesOnly 0x82 false s (loadReg r o t s) :=
  .of_nz (congrArg (nz _) (by simp)) fun _ => by simp [loadReg, setReg_sp hr]

theorem writesOnly_storeReg (r : Reg) (m : MemOp) (t : Timing) (s : State) :
    WritesOnly 0x00 false s (storeReg r m t s) :=
  .of_eq (by simp [storeReg]) fun _ => by simp [storeReg]

theorem writesOnly_transfer (r : Reg) {d : Reg} (hd : d ≠ .s) (n : Nat) (s : State) :
    WritesOnly 0x82 false s (transfer r d n s) :=
  .of_nz (congrArg (nz _) (by simp)) fun _ => by simp [transfer, setReg_sp hd]

theorem writesOnly_transferSp (n : Nat) (s : State) : WritesOnly 0x00 true s (transferSp n s) := .of_eq rfl nofun

theorem writesOnly_pushByte (v : Byte) (n : Nat) (s : State) : WritesOnly 0x00 true s (pushByte v n s) :=
  .of_eq (by simp [pushByte, push_eq]) nofun

theorem writesOnly_pullAcc (n : Nat) (s : State) : WritesOnly 0x82 true s (pullAcc n s) :=
  .of_nz (congrArg (nz _) (by simp [pull_eq])) nofun

theorem writesOnly_pullStatus {s : State} (h : s.p &&& 0x30 = 0x20) (n : Nat) : WritesOnly 0xCF true s (pullStatus n s) :=
  ⟨pulledStatus_and_not h _, nofun⟩

theorem writesOnly_addToAcc (v : Byte) {s t : State} (hp : t.p = s.p) (hsp : t.sp = s.sp) :
    WritesOnly 0xC3 false s (addToAcc v t) :=
  ⟨by simp only [addToAcc, State.setA_p, State.setP_p, adcFlags_and, hp], fun _ => hsp⟩

theorem writesOnly_addWithCarry (o : Src) (t : Timing) (s : State) : WritesOnly 0xC3 false s (addWithCarry o t s) :=
  writesOnly_addToAcc _ (fetchM_p o t s) (fetchM_sp o t s)

theorem writesOnly_subWithBorrow (o : Src) (t : Timing) (s : State) : WritesOnly 0xC3 false s (subWithBorrow o t s) :=
  writesOnly_addToAcc _ (fetchM_p o t s) (fetchM_sp o t s)

theorem writesOnly_logic (f : Byte → Byte → Byte) (o : Src) (t : Timing) (s : State) :
    WritesOnly 0x82 false s (logic f o t s) :=
  .of_nz (congrArg (nz _) (by simp)) fun _ => by simp [logic]

theorem writesOnly_compareReg (r : Reg) (o : Src) (t : Timing) (s : State) :
    WritesOnly 0x83 false s (compareReg r o t s) :=
  ⟨by simp only [compareReg, State.setP_p, compareFlags_and, fetchM_p], fun _ => by simp [compareReg]⟩

theorem writesOnly_bitTest (o : Src) (t : Timing) (s : State) : WritesOnly 0xC2 false s (bitTest o t s) :=
  ⟨by simp only [bitTest, State.setP_p, bitFlags_and, fetchM_p], fun _ => by simp [bitTest]⟩

theorem writesOnly_modifyMem (f : Byte → Byte) (m : MemOp) (t : Timing) (s : State) :
    WritesOnly 0x82 false s (modifyMem f m t s) :=
  .of_nz (congrArg (nz _) (by simp)) fun _ => by simp [modifyMem]

theorem writesOnly_modifyReg (f : Byte → Byte) {r : Reg} (hr : r ≠ .s) (n : Nat) (s : State) :
    WritesOnly 0x82 false s (modifyReg f r n s) :=
  .of_nz (congrArg (nz _) (by simp)) fun _ => by simp [modifyReg, setReg_sp hr]

theorem writesOnly_shiftMem (f : Byte → Bool → Byte × Bool) (m : MemOp) (t : Timing) (s : State) :
    WritesOnly 0x83 false s (shiftMem f m t s) :=
  ⟨by simp only [shiftMem, State.setP_p, shiftFlags_and, busWrite_p, busRead_p, locate_p], fun _ => by simp [shiftMem]⟩

theorem writesOnly_shiftAcc (f : Byte → Bool → Byte × Bool) (n : Nat) (s : State) :
    WritesOnly 0x83 false s (shiftAcc f n s) :=
  ⟨shiftFlags_and _ _, fun _ => rfl⟩

theorem writesOnly_jump (a : Addr) (n : Nat) (s : State) : WritesOnly 0x00 false s (jump a n s) := .of_eq rfl fun _ => rfl

theorem writesOnly_jumpIndirect (a : Addr) (n : Nat) (s : State) : WritesOnly 0x00 false s (jumpIndirect a n s) :=
  .of_eq (by simp [jumpIndirect, busReadPw16, busReadPair]) fun _ => by simp [jumpIndirect, busReadPw16, busReadPair]

theorem writesOnly_callSubroutine (a : Addr) (n : Nat) (s : State) : WritesOnly 0x00 true s (callSubroutine a n s) :=
  .of_eq (by simp [callSubroutine, pushWord_eq]) nofun

theorem writesOnly_returnFromSubroutine (n : Nat) (s : State) : WritesOnly 0x00 true s (returnFromSubroutine n s) :=
  .of_eq (by simp [returnFromSubroutine, pullWord_eq]) nofun

theorem writesOnly_chargedReturn {s : State} (h : s.p &&& 0x30 = 0x20) (n : Nat) :
    WritesOnly 0xCF true s (returnFromException (charge n s)) := by
  rw [returnFromException_eq]
  exact ⟨pulledStatus_and_not h _, nofun⟩

theorem writesOnly_chargedBrk (ret : Addr) (status : Byte) (n : Nat) (s : State) :
    WritesOnly 0x04 true s (enterException ret status brkVector (charge n s)) := by
  rw [enterException_eq ret status (by decide) (by decide)]
  exact ⟨withBit_and (by decide) _ _, nofun⟩

theorem writesOnly_branch (c : Bool) (off : Byte) (n : Nat) (s : State) : WritesOnly 0x00 false s (branch c off n s) := by
  cases c <;> exact .of_eq rfl fun _ => rfl

theorem writesOnly_charge (n : Nat) (s : State) : WritesOnly 0x00 false s (charge n s) := .of_eq rfl fun _ => rfl

theorem writesOnly_chargedWithBit (mask : Byte) (v : Bool) (n : Nat) (s : State) :
    WritesOnly mask false s ((charge n s).setP (withBit s.p mask v)) :=
  ⟨withBit_and (by simp) _ _, fun _ => rfl⟩

/-! ## Every instruction -/

/-- Every instruction writes the flags of R14 and x[S] as R12 lets it, in a state whose status byte has its fixed bits. -/
theorem exec_writesOnly (i : Instr) {s : State} (h : s.p &&& 0x30 = 0x20) :
    NextSatisfies (WritesOnly (writtenFlags i.row.mnemonic) (writesSp i.row.mnemonic) s) (exec i s) := by
  cases i <;> change WritesOnly _ _ s _ <;>
    simp only [Instr.row, writtenFlags, writesSp, withC, withI, withV, withD, ne_eq, reduceCtorEq, not_false_eq_true, h,
      writesOnly_loadReg, writesOnly_storeReg, writesOnly_transfer, writesOnly_transferSp, writesOnly_pushByte,
      writesOnly_pullAcc, writesOnly_pullStatus, writesOnly_addWithCarry, writesOnly_subWithBorrow, writesOnly_logic,
      writesOnly_compareReg, writesOnly_bitTest, writesOnly_modifyMem, writesOnly_modifyReg, writesOnly_shiftMem,
      writesOnly_shiftAcc, writesOnly_jump, writesOnly_jumpIndirect, writesOnly_callSubroutine,
      writesOnly_returnFromSubroutine, writesOnly_chargedReturn, writesOnly_chargedBrk, writesOnly_branch,
      writesOnly_charge, writesOnly_chargedWithBit]

/-- The fixed bits of the status byte stay as they are (R14). -/
theorem WritesOnly.statusBits {m : Mnemonic} {sp : Bool} {s t : State} (h : WritesOnly (writtenFlags m) sp s t) :
    t.p &&& 0x30 = s.p &&& 0x30 :=
  h.p_and (by cases m <;> rfl)

end Sys2Proof.Machine
end

section
/-! The statement on the writers of the flags and of x[S]. -/

namespace Sys2Proof.Proofs

open Sys2Proof.Machine

/-- Settles O21: every instruction's next state differs from the state in the bits of `writtenFlags` and in x[S] only where
`writesSp`; the lists of R14 and R12 are these two tables, read mnemonic by mnemonic. -/
theorem flagAndStackPointerWriters : Obligations.FlagAndStackPointerWriters := by
  intro i s hs
  have hw := exec_writesOnly i hs
  obtain ⟨t, ht, -⟩ := exec_next i s
  rw [ht] at hw
  change WritesOnly _ _ s t at hw
  generalize i.row.mnemonic = m at hw ⊢
  refine ⟨t, ht, hw.statusBits.trans hs, fun hm => hw.p_and ?v, fun hm => hw.p_and ?d, fun hm => hw.p_and ?i,
    fun hm => hw.p_and ?c, fun hm => hw.p_and ?nz, fun hm => hw.sp ?sp⟩
  all_goals
    revert hm
    clear hw
    cases m <;> decide

end Sys2Proof.Proofs
end

section
/-! SUPPORT. The bound of the pending counter (spec/10_state.md R16): one lemma for each shared operation, then all
instructions. -/

namespace Sys2Proof.Machine

/-- The most idle steps a table row can charge before its write: the base cost less one, and the page-crossing penalty. -/
def Timing.maxIdle (t : Timing) : Nat := t.base - 1 + if t.pageCross then 1 else 0

theorem pendingOk_iff (s : State) : pendingOk s = true ↔ s.pending ≤ if s.params.oamDmaEnable then 520 else 6 := by
  simp [pendingOk]

theorem pendingOk_of_le {s : State} (h : s.pending ≤ 6) : pendingOk s = true := by
  rw [pendingOk_iff]
  split_ifs <;> omega

/-- A write adds at most the OAM-DMA cost, 514, and that only where the bound is 520 (R45). -/
theorem pendingOk_busWrite {s : State} (h : s.pending ≤ 6) (a : Addr) (v : Byte) : pendingOk (busWrite a v s) = true := by
  rw [pendingOk_iff, busWrite_pending, busWrite_params]
  cases hd : s.params.oamDmaEnable
  · simpa using h
  · simp only [and_true, if_true]
    split_ifs <;> omega

theorem locate_pending_le (m : MemOp) (t : Timing) (s : State) : (locate m t s).2.pending ≤ t.maxIdle := by
  rw [locate_state]
  cases hp : t.pageCross <;> simp only [State.setPending_pending, Timing.maxIdle, hp] <;> split_ifs <;> simp_all

theorem fetchM_pending_le (o : Src) (t : Timing) (s : State) : (fetchM o t s).2.pending ≤ t.maxIdle := by
  rw [fetchM_pending]
  cases o with
  | imm b => exact Nat.le_add_right _ _
  | mem m => exact locate_pending_le m t s

@[simp] theorem setReg_pending (r : Reg) (v : Byte) (s : State) : (setReg r v s).pending = s.pending := by cases r <;> rfl
@[simp] theorem charge_pending (n : Nat) (s : State) : (charge n s).pending = n - 1 := rfl

/-- Only the pending counter and the parameters matter to the bound. -/
theorem pendingOk_congr {s t : State} (h : t.pending = s.pending) (hp : t.params = s.params) :
    pendingOk t = pendingOk s := by
  rw [pendingOk, pendingOk, h, hp]

/-! ## The instruction families' shared operations -/

section
variable {t : Timing} (ht : t.maxIdle ≤ 6) (o : Src) (m : MemOp) (s : State)
include ht

theorem pendingOk_of_fetchM {u : State} (h : u.pending = (fetchM o t s).2.pending) : pendingOk u = true :=
  pendingOk_of_le (h.le.trans ((fetchM_pending_le o t s).trans ht))

theorem pendingOk_loadReg (r : Reg) : pendingOk (loadReg r o t s) = true :=
  pendingOk_of_fetchM ht o s (setReg_pending _ _ _)

theorem pendingOk_addWithCarry : pendingOk (addWithCarry o t s) = true := pendingOk_of_fetchM ht o s rfl

theorem pendingOk_subWithBorrow : pendingOk (subWithBorrow o t s) = true := pendingOk_of_fetchM ht o s rfl

theorem pendingOk_logic (f : Byte → Byte → Byte) : pendingOk (logic f o t s) = true := pendingOk_of_fetchM ht o s rfl

theorem pendingOk_compareReg (r : Reg) : pendingOk (compareReg r o t s) = true := pendingOk_of_fetchM ht o s rfl

theorem pendingOk_bitTest : pendingOk (bitTest o t s) = true := pendingOk_of_fetchM ht o s rfl

theorem pendingOk_storeReg (r : Reg) : pendingOk (storeReg r m t s) = true :=
  pendingOk_busWrite ((locate_pending_le m t s).trans ht) _ _

theorem pendingOk_readThenWrite (v : Byte) :
    pendingOk (busWrite (locate m t s).1 v (busRead (locate m t s).1 (locate m t s).2).2) = true :=
  pendingOk_busWrite ((busRead_pending _ _).le.trans ((locate_pending_le m t s).trans ht)) _ _

theorem pendingOk_modifyMem (f : Byte → Byte) : pendingOk (modifyMem f m t s) = true :=
  (pendingOk_congr rfl rfl).trans (pendingOk_readThenWrite ht m s _)

theorem pendingOk_shiftMem (f : Byte → Bool → Byte × Bool) : pendingOk (shiftMem f m t s) = true :=
  (pendingOk_congr rfl rfl).trans (pendingOk_readThenWrite ht m s _)

end

section
variable {n : Nat} (hn : n ≤ 7) (s : State)
include hn

/-- A state that keeps the charge of a base cost. -/
theorem pendingOk_of_charge {u : State} (h : u.pending = n - 1) : pendingOk u = true := pendingOk_of_le (by omega)

theorem pendingOk_charge : pendingOk (charge n s) = true := pendingOk_of_charge hn rfl

theorem pendingOk_chargedSetP (v : Byte) : pendingOk ((charge n s).setP v) = true := pendingOk_of_charge hn rfl

theorem pendingOk_transfer (r d : Reg) : pendingOk (transfer r d n s) = true :=
  pendingOk_of_charge hn (setReg_pending _ _ _)

theorem pendingOk_transferSp : pendingOk (transferSp n s) = true := pendingOk_of_charge hn rfl

theorem pendingOk_modifyReg (f : Byte → Byte) (r : Reg) : pendingOk (modifyReg f r n s) = true :=
  pendingOk_of_charge hn (setReg_pending _ _ _)

theorem pendingOk_shiftAcc (f : Byte → Bool → Byte × Bool) : pendingOk (shiftAcc f n s) = true :=
  pendingOk_of_charge hn rfl

theorem pendingOk_pushByte (v : Byte) : pendingOk (pushByte v n s) = true :=
  pendingOk_of_charge hn (by rw [pushByte, push_eq]; rfl)

theorem pendingOk_pullAcc : pendingOk (pullAcc n s) = true := pendingOk_of_charge hn (by simp [pullAcc, pull_eq, setNZ])

theorem pendingOk_pullStatus : pendingOk (pullStatus n s) = true := pendingOk_of_charge hn (by simp [pullStatus, pull_eq])

theorem pendingOk_jump (a : Addr) : pendingOk (jump a n s) = true := pendingOk_of_charge hn rfl

theorem pendingOk_jumpIndirect (a : Addr) : pendingOk (jumpIndirect a n s) = true :=
  pendingOk_of_charge hn (by simp [jumpIndirect, busReadPw16, busReadPair])

theorem pendingOk_callSubroutine (a : Addr) : pendingOk (callSubroutine a n s) = true :=
  pendingOk_of_charge hn (by rw [callSubroutine, pushWord_eq]; rfl)

theorem pendingOk_returnFromSubroutine : pendingOk (returnFromSubroutine n s) = true :=
  pendingOk_of_charge hn (by rw [returnFromSubroutine, pullWord_eq]; rfl)

theorem pendingOk_chargedReturn : pendingOk (returnFromException (charge n s)) = true :=
  pendingOk_of_charge hn (by rw [returnFromException_eq]; rfl)

theorem pendingOk_chargedBrk (ret : Addr) (status : Byte) :
    pendingOk (enterException ret status brkVector (charge n s)) = true :=
  pendingOk_of_charge hn (by rw [enterException_eq ret status (by decide) (by decide)]; rfl)

end

/-- The branches add at most 2 to their base cost (R181). -/
theorem pendingOk_branch {n : Nat} (hn : n ≤ 5) (c : Bool) (off : Byte) (s : State) :
    pendingOk (branch c off n s) = true := by
  have h : (branch c off n s).pending ≤ n - 1 + 2 := by
    cases c
    · exact Nat.le_add_right _ _
    · change n - 1 + (if otherPage (branchTarget s.pc off) s.pc then 2 else 1) ≤ n - 1 + 2
      split_ifs <;> omega
  exact pendingOk_of_le (by omega)

/-! ## Every instruction -/

/-- Every instruction leaves the pending counter within its bound, whatever it was (R16). -/
theorem exec_pendingOk (i : Instr) (s : State) : NextSatisfies (fun t => pendingOk t = true) (exec i s) := by
  cases i <;> change pendingOk _ = true <;>
    simp only [Timing.maxIdle, if_true, if_false, Bool.false_eq_true, Nat.reduceAdd, Nat.reduceSub, Nat.reduceLeDiff,
      pendingOk_loadReg, pendingOk_storeReg, pendingOk_transfer, pendingOk_transferSp, pendingOk_pushByte,
      pendingOk_pullAcc, pendingOk_pullStatus, pendingOk_addWithCarry, pendingOk_subWithBorrow, pendingOk_logic,
      pendingOk_compareReg, pendingOk_bitTest, pendingOk_modifyMem, pendingOk_modifyReg, pendingOk_shiftMem,
      pendingOk_shiftAcc, pendingOk_jump, pendingOk_jumpIndirect, pendingOk_callSubroutine,
      pendingOk_returnFromSubroutine, pendingOk_chargedReturn, pendingOk_chargedBrk, pendingOk_branch,
      pendingOk_chargedSetP, pendingOk_charge]

end Sys2Proof.Machine
end

section
/-! SUPPORT. What every step keeps. `TickKeeps` collects the parts of the invariant with what is fixed for the machine; each
kind of step has its lemma. -/

namespace Sys2Proof.Machine

/-- From `s` to `t` the cartridge and the parameters stay, and so does each part of the invariant; the memories stay in size
because the PPU's position is in range. -/
structure TickKeeps (s t : State) : Prop where
  cart : t.cart = s.cart
  params : t.params = s.params
  status : statusOk s = true → statusOk t = true
  timing : timingOk s.ppu = true → timingOk t.ppu = true
  scroll : scrollOk s.ppu = true → scrollOk t.ppu = true
  pending : pendingOk s = true → pendingOk t = true
  memories : timingOk s.ppu = true → memoriesOk s = true → memoriesOk t = true

theorem statusOk_iff (s : State) : statusOk s = true ↔ s.p &&& 0x30 = 0x20 := beq_iff_eq

theorem statusOk_congr {s t : State} (h : t.p = s.p) : statusOk t = statusOk s := congrArg (· &&& 0x30 == 0x20) h

theorem timingOk_congr {u v : Ppu} (hstage : v.stage = u.stage) (hscanline : v.scanline = u.scanline)
    (hcycle : v.cycle = u.cycle) : timingOk v = timingOk u := by
  rw [timingOk, timingOk, hstage, hscanline, hcycle]

theorem scrollOk_congr {u v : Ppu} (hx : v.xScroll = u.xScroll) (hy : v.yScroll = u.yScroll) : scrollOk v = scrollOk u := by
  rw [scrollOk, scrollOk, hx, hy]

/-! ## The CPU's steps -/

/-- A CPU step that keeps what instructions keep, the fixed status bits and the pending counter's bound. -/
theorem TickKeeps.of_keeps {s t : State} (h : Keeps (counted s) t) (hstatus : statusOk s = true → statusOk t = true)
    (hpending : pendingOk s = true → pendingOk t = true) : TickKeeps s (countTick t) where
  cart := h.cart
  params := h.params
  status := hstatus
  timing := fun hs => (timingOk_congr h.stage h.scanline h.cycle).trans hs
  scroll := h.scroll
  pending := hpending
  memories := fun _ => h.memories

theorem tickKeeps_idle (s : State) : TickKeeps s (countTick ((counted s).setPending (s.pending - 1))) :=
  .of_keeps (keeps_setPending _ _) id fun h => by
    rw [pendingOk_iff] at h ⊢
    exact (Nat.sub_le _ _).trans h

theorem nmiEntry_p (s : State) : (nmiEntry s).p = withI s.p true := by
  rw [nmiEntry, enterException_eq _ _ (by decide) (by decide)]
  rfl

theorem tickKeeps_nmi (s : State) : TickKeeps s (countTick (nmiEntry (counted s))) := by
  have h := keeps_enterException (counted s).pc (pushedByNmi (counted s).p) nmiVector ((counted s).setNmiLatch false)
  exact {
    cart := h.cart
    params := h.params
    status := fun hs => by
      rw [statusOk_iff] at hs ⊢
      exact (congrArg (· &&& 0x30) (nmiEntry_p _)).trans ((withBit_and (by decide) _ _).trans hs)
    timing := fun hs => (timingOk_congr h.stage h.scanline h.cycle).trans hs
    scroll := h.scroll
    pending := fun _ => pendingOk_of_le (Nat.le_refl 6)
    memories := fun _ => h.memories }

theorem tickKeeps_illegal (s : State) (op : Byte) (a : Addr) :
    TickKeeps s (countTick (raiseIllegalOpcode op s (busRead a (counted s)).2)) := by
  have h := keeps_busRead a (counted s)
  exact {
    cart := h.cart
    params := h.params
    status := (statusOk_congr (busRead_p a (counted s))).trans
    timing := fun hs => (timingOk_congr h.stage h.scanline h.cycle).trans hs
    scroll := h.scroll
    pending := (pendingOk_congr (busRead_pending a (counted s)) h.params).trans
    memories := fun _ => h.memories }

/-- What `exec` keeps of a state with its instruction fetched. -/
theorem exec_keeps_next {i : Instr} {u v : State} (h : exec i u = .next v) : Keeps u v := by
  obtain ⟨t, ht, hk⟩ := exec_next i u
  rw [h] at ht
  cases ht
  exact hk

theorem exec_statusOk {i : Instr} {u v : State} (h : exec i u = .next v) (hu : statusOk u = true) : statusOk v = true := by
  rw [statusOk_iff] at hu ⊢
  have hw := exec_writesOnly i hu
  rw [h] at hw
  exact hw.statusBits.trans hu

theorem tickKeeps_instr {s u v : State} {i : Instr} (hkeeps : Keeps (counted s) u) (hp : u.p = s.p)
    (hexec : exec i u = .next v) : TickKeeps s (countTick v) := by
  have hpending := exec_pendingOk i u
  rw [hexec] at hpending
  exact .of_keeps (hkeeps.trans (exec_keeps_next hexec)) (fun hs => exec_statusOk hexec ((statusOk_congr hp).trans hs))
    fun _ => hpending

/-! ## The PPU's step -/

theorem timingOk_preRendering {u : Ppu} (h : u.stage = .preRendering) :
    timingOk u = true ↔ u.scanline = 261 ∧ u.cycle ≤ 339 := by simp [timingOk, h]

theorem timingOk_rendering {u : Ppu} (h : u.stage = .rendering) :
    timingOk u = true ↔ u.scanline ≤ 239 ∧ u.cycle ≤ 340 := by simp [timingOk, h]

theorem timingOk_postRendering {u : Ppu} (h : u.stage = .postRendering) :
    timingOk u = true ↔ 240 ≤ u.scanline ∧ u.scanline ≤ 260 ∧ u.cycle ≤ 340 := by simp [timingOk, h, and_assoc]

theorem preRenderingLength_le (u : Ppu) : preRenderingLength u ≤ 340 := by
  unfold preRenderingLength
  split_ifs <;> omega

/-- A cycle that writes the vblank flag in one case changes that flag only. -/
theorem exists_ite_vblank (c : Prop) [Decidable c] (u : Ppu) (b : Bool) :
    ∃ v, (if c then { u with vblank := b } else u) = { u with vblank := v } := by
  split_ifs
  · exact ⟨b, rfl⟩
  · exact ⟨u.vblank, rfl⟩

/-- A cycle that draws in one case changes the frame buffer only. -/
theorem exists_ite_emitPixel (c : Prop) [Decidable c] (px sy : Nat) (s : State) :
    ∃ f, (if c then emitPixel px sy s else s) = s.setFb f := by
  split_ifs
  · exact ⟨_, emitPixel_state px sy s⟩
  · exact ⟨s.fb, rfl⟩

theorem timingOk_stepPreRendering {s : State} (hstage : s.ppu.stage = .preRendering) (h : timingOk s.ppu = true) :
    timingOk (stepPreRendering s).ppu = true := by
  obtain ⟨hscanline, -⟩ := (timingOk_preRendering hstage).1 h
  obtain ⟨v, hv⟩ := exists_ite_vblank (s.ppu.cycle = 1) s.ppu false
  simp only [stepPreRendering, hv]
  split_ifs with hlast <;> simp only [State.setPpu_ppu]
  · exact (timingOk_rendering rfl).2 ⟨Nat.zero_le _, Nat.zero_le _⟩
  · have hnext : s.ppu.cycle + 1 ≤ 339 := Nat.le_of_lt_succ ((not_le.1 hlast).trans_le (preRenderingLength_le _))
    exact (timingOk_preRendering (by exact hstage)).2 ⟨hscanline, hnext⟩

theorem timingOk_stepRendering {s : State} (hstage : s.ppu.stage = .rendering) (h : timingOk s.ppu = true) :
    timingOk (stepRendering s).ppu = true := by
  obtain ⟨hscanline, -⟩ := (timingOk_rendering hstage).1 h
  obtain ⟨f, hf⟩ := exists_ite_emitPixel (1 ≤ s.ppu.cycle ∧ s.ppu.cycle ≤ 256) (s.ppu.cycle - 1) s.ppu.scanline s
  simp only [stepRendering, hf, State.setFb_ppu]
  split_ifs with hend hlast <;> simp only [State.setFrameReady_ppu, State.setPpu_ppu]
  · exact (timingOk_postRendering rfl).2 ⟨hlast.ge, hlast.le.trans (by decide), Nat.zero_le _⟩
  · have hnext : s.ppu.scanline + 1 ≤ 239 := by omega
    exact (timingOk_rendering (by exact hstage)).2 ⟨hnext, Nat.zero_le _⟩
  · exact (timingOk_rendering (by exact hstage)).2 ⟨hscanline, not_lt.1 hend⟩

theorem timingOk_stepPostRendering {s : State} (hstage : s.ppu.stage = .postRendering) (h : timingOk s.ppu = true) :
    timingOk (stepPostRendering s).ppu = true := by
  obtain ⟨hlow, hhigh, -⟩ := (timingOk_postRendering hstage).1 h
  obtain ⟨v, hv⟩ := exists_ite_vblank (atVblankEdge s.ppu = true) s.ppu true
  simp only [stepPostRendering, hv]
  split_ifs with hend hlast <;> simp only [State.setPpu_ppu]
  · exact (timingOk_preRendering rfl).2 ⟨hlast, Nat.zero_le _⟩
  · have hnext : s.ppu.scanline + 1 ≤ 260 := by omega
    exact (timingOk_postRendering (by exact hstage)).2 ⟨Nat.le_succ_of_le hlow, hnext, Nat.zero_le _⟩
  · exact (timingOk_postRendering (by exact hstage)).2 ⟨hlow, hhigh, not_lt.1 hend⟩

/-- A PPU cycle keeps the stage in step with the scanline and the cycle in the stage's range (R27, R240). -/
theorem timingOk_ppuStep {s : State} (h : timingOk s.ppu = true) : timingOk (ppuStep s).2.ppu = true := by
  cases hstage : s.ppu.stage with
  | preRendering => simpa only [ppuStep, hstage] using timingOk_stepPreRendering hstage h
  | rendering => simpa only [ppuStep, hstage] using timingOk_stepRendering hstage h
  | postRendering => simpa only [ppuStep, hstage] using timingOk_stepPostRendering hstage h

/-- The pixel a PPU cycle draws lies inside the frame buffer (R29, R250). -/
theorem memoryOk_ppuStep_fb {s : State} (h : timingOk s.ppu = true) (hfb : memoryOk s.fb 61440 = true) :
    memoryOk (ppuStep s).2.fb 61440 = true := by
  rw [ppuStep_fb]
  split_ifs with hdraw
  · obtain ⟨hstage, hfirst, hlast⟩ := hdraw
    obtain ⟨hscanline, -⟩ := (timingOk_rendering hstage).1 h
    exact memoryOk_write _ (by omega) hfb
  · exact hfb

theorem memoriesOk_iff (s : State) : memoriesOk s = true ↔
    memoryOk s.ram 2048 = true ∧ memoryOk s.vram 2048 = true ∧ memoryOk s.oam 256 = true ∧ memoryOk s.pal 32 = true ∧
      memoryOk s.fb 61440 = true ∧ memoryOk s.sram (if s.cart.hasSram then 8192 else 0) = true := by
  simp [memoriesOk, and_assoc]

/-- The memories stay in size when the frame buffer does and the others are as before. -/
theorem memoriesOk_of_fb {s t : State} (hram : t.ram = s.ram) (hvram : t.vram = s.vram) (hoam : t.oam = s.oam)
    (hpal : t.pal = s.pal) (hsram : t.sram = s.sram) (hcart : t.cart = s.cart)
    (hfb : memoryOk s.fb 61440 = true → memoryOk t.fb 61440 = true) (hs : memoriesOk s = true) : memoriesOk t = true := by
  rw [memoriesOk_iff] at hs ⊢
  obtain ⟨hr, hv, ho, hp, hf, hsr⟩ := hs
  rw [hram, hvram, hoam, hpal, hsram, hcart]
  exact ⟨hr, hv, ho, hp, hfb hf, hsr⟩

/-- A PPU tick is a PPU cycle that may set the NMI latch. -/
theorem ppuTick_eq (s : State) : ∃ l, ppuTick s = (ppuStep s).2.setNmiLatch l := by
  unfold ppuTick
  dsimp only
  split_ifs
  · exact ⟨true, rfl⟩
  · exact ⟨(ppuStep s).2.nmiLatch, rfl⟩

theorem tickKeeps_ppu (s : State) : TickKeeps s (countTick (ppuTick s)) := by
  obtain ⟨l, hl⟩ := ppuTick_eq s
  have htiming := @timingOk_ppuStep s
  have hfb := @memoryOk_ppuStep_fb s
  obtain ⟨f, r, v, c, n, g, q, hs⟩ := ppuStep_state s
  rw [hl]
  rw [hs] at htiming hfb ⊢
  exact {
    cart := by simp [countTick]
    params := by simp [countTick]
    status := by simp [countTick, statusOk]
    timing := htiming
    scroll := fun h => (scrollOk_congr (by simp [countTick]) (by simp [countTick])).trans h
    pending := fun h => (pendingOk_congr (by simp [countTick]) (by simp [countTick])).trans h
    memories := fun ht hm => memoriesOk_of_fb (by simp [countTick]) (by simp [countTick]) (by simp [countTick])
      (by simp [countTick]) (by simp [countTick]) (by simp [countTick]) (hfb ht) hm }

/-! ## Every step -/

theorem StepCase.keeps {s t : State} (h : StepCase s t) : TickKeeps s t := by
  cases h with
  | idle => exact tickKeeps_idle s
  | nmi => exact tickKeeps_nmi s
  | illegal => exact tickKeeps_illegal s _ _
  | instr _ hkeeps hp hexec => exact tickKeeps_instr hkeeps hp hexec
  | ppu => exact tickKeeps_ppu s

/-- A step halts a running machine exactly when it fetches an illegal opcode (R271). -/
theorem StepCase.halted_iff {s t : State} (h : StepCase s t) (hs : s.halted = none) :
    t.halted ≠ none ↔ Claims.meetsIllegalOpcode s := by
  cases h with
  | idle hmaster hpending =>
    have hno : atFetch s = false := by simp [atFetch, Nat.ne_of_gt hpending]
    simp [countTick, counted, hs, Claims.meetsIllegalOpcode, hno]
  | nmi hmaster hpending hlatch =>
    have hno : atFetch s = false := by simp [atFetch, hlatch]
    have hk : (nmiEntry (counted s)).halted = s.halted := (keeps_enterException _ _ _ _).halted
    simp [countTick, hk, hs, Claims.meetsIllegalOpcode, hno]
  | illegal hfetch hop => simp [countTick, raiseIllegalOpcode, Claims.meetsIllegalOpcode, hfetch, hop]
  | instr hop hkeeps hp hexec =>
    have hv := ((hkeeps.trans (exec_keeps_next hexec)).halted).trans hs
    simp [countTick, hv, Claims.meetsIllegalOpcode, hop]
  | ppu hmaster =>
    have hno : atFetch s = false := by simp [atFetch, hmaster]
    obtain ⟨l, hl⟩ := ppuTick_eq s
    obtain ⟨f, r, v, c, n, g, q, hstep⟩ := ppuStep_state s
    simp [countTick, hl, hstep, hs, Claims.meetsIllegalOpcode, hno]

theorem invariant_iff (s : State) : Invariant s = true ↔
    statusOk s = true ∧ timingOk s.ppu = true ∧ scrollOk s.ppu = true ∧ pendingOk s = true ∧ memoriesOk s = true ∧
      cartOk s.cart = true := by
  simp [Invariant, and_assoc]

theorem TickKeeps.invariant {s t : State} (h : TickKeeps s t) (hs : Invariant s = true) : Invariant t = true := by
  rw [invariant_iff] at hs ⊢
  obtain ⟨hstatus, htiming, hscroll, hpending, hmemories, hcart⟩ := hs
  exact ⟨h.status hstatus, h.timing htiming, h.scroll hscroll, h.pending hpending, h.memories htiming hmemories,
    by rw [h.cart]; exact hcart⟩

/-- The launch premises hold again once the fatal latch is left out of account (log 13). -/
theorem TickKeeps.launchOk {s t : State} (h : TickKeeps s t) (hs : launchOk s = true) :
    launchOk { t with halted := none } = true := by
  rw [launchOk_iff] at hs ⊢
  obtain ⟨hstatus, -, htiming, hscroll, hpending⟩ := hs
  exact ⟨h.status hstatus, rfl, h.timing htiming, h.scroll hscroll, h.pending hpending⟩

end Sys2Proof.Machine
end

section
/-! The statements on what every step and every run keep. -/

namespace Sys2Proof.Proofs

open Sys2Proof.Machine

/-- Settles O12, by induction on the length of the run. -/
theorem cartridgeAndParametersFixed : Obligations.CartridgeAndParametersFixed := by
  intro n
  induction n with
  | zero =>
    rintro s t rfl
    exact ⟨rfl, rfl⟩
  | succ n ih =>
    rintro s t ⟨u, hu, hrun⟩
    obtain ⟨hcart, hparams⟩ := ih u t hrun
    have hk := (step_cases hu).2.keeps
    exact ⟨hcart.trans hk.cart, hparams.trans hk.params⟩

/-- Settles O13, by the five kinds of step. -/
theorem stepKeepsInvariant : Obligations.StepKeepsInvariant := by
  intro s t h
  obtain ⟨hrunning, hcase⟩ := step_cases h
  exact ⟨hcase.keeps.invariant, fun hs => ⟨hcase.keeps.launchOk hs, hcase.halted_iff hrunning⟩⟩

end Sys2Proof.Proofs
end

section
/-! The statements on power-on and on the reset state, which is a power-on. -/

namespace Sys2Proof.Machine

/-- The statements' word of two bytes is the machine's. -/
theorem join_eq_word (h l : Byte) : Claims.join h l = word h l := by
  apply BitVec.eq_of_toNat_eq
  have hh := h.isLt
  have hl := l.isLt
  rw [Claims.join, word_toNat, BitVec.toNat_ofNat]
  omega

/-- The machine right after power-on (R32, R310, R312). -/
theorem powerOn_eq (c : Cartridge) (ps : Params) (m : Inits) : powerOn c ps m =
    { State.reset with
      pc := word (readPrg 0xFFFD c) (readPrg 0xFFFC c), ram := m.ram, vram := m.vram, oam := m.oam, pal := m.pal, fb := m.fb,
      sram := if c.hasSram then m.sram else [], cart := c, params := ps } := by
  rw [powerOn, cpuReset_eq]
  rfl

/-- Power-on meets the launch premises, whatever is loaded (R34). -/
theorem launchOk_powerOn (c : Cartridge) (ps : Params) (m : Inits) : launchOk (powerOn c ps m) = true := by
  rw [powerOn_eq, launchOk_iff]
  have hstatus : (0x24 : Byte) &&& 0x30 = 0x20 := by decide
  exact ⟨(statusOk_iff _).2 hstatus, rfl, rfl, rfl, pendingOk_of_le (Nat.zero_le 6)⟩

/-- Power-on with a legal cartridge and memories inside their sizes meets the invariant. -/
theorem invariant_powerOn {c : Cartridge} (ps : Params) {m : Inits} (hcart : cartOk c = true)
    (hram : memoryOk m.ram 2048 = true) (hvram : memoryOk m.vram 2048 = true) (hoam : memoryOk m.oam 256 = true)
    (hpal : memoryOk m.pal 32 = true) (hfb : memoryOk m.fb 61440 = true) (hsram : memoryOk m.sram 8192 = true) :
    Invariant (powerOn c ps m) = true := by
  obtain ⟨hstatus, -, htiming, hscroll, hpending⟩ := (launchOk_iff _).1 (launchOk_powerOn c ps m)
  have hsize : memoryOk (if c.hasSram then m.sram else []) (if c.hasSram then 8192 else 0) = true := by
    cases c.hasSram
    · rfl
    · exact hsram
  have hmemories : memoriesOk (powerOn c ps m) = true := by
    rw [powerOn_eq, memoriesOk_iff]
    exact ⟨hram, hvram, hoam, hpal, hfb, hsize⟩
  rw [invariant_iff]
  exact ⟨hstatus, htiming, hscroll, hpending, hmemories, by rw [powerOn_eq]; exact hcart⟩

end Sys2Proof.Machine

namespace Sys2Proof.Proofs

open Sys2Proof.Machine

/-- Settles O15. -/
theorem powerOnValues : Obligations.PowerOnValues := by
  intro c ps m
  refine ⟨?values, launchOk_powerOn c ps m, invariant_powerOn ps⟩
  rw [powerOn_eq, join_eq_word]
  rfl

/-- Settles O14: the reset state is the power-on of the empty cartridge with zero memories. -/
theorem resetMeetsInvariant : Obligations.ResetMeetsInvariant := by
  rw [Obligations.ResetMeetsInvariant, reset_eq_powerOn]
  exact ⟨invariant_powerOn _ (by decide) rfl rfl rfl rfl rfl rfl, launchOk_powerOn _ _ _⟩

end Sys2Proof.Proofs
end

section
/-! SUPPORT. The CPU bus region by region (spec/20_memory.md R40 to R51): what the regions that Laws/Bus.lean leaves out do, and
which reads have no side effect. -/

namespace Sys2Proof.Machine

/-! ## The cartridge windows and the stubs -/

theorem readSram_of_present (a : Addr) {s : State} (hs : s.cart.hasSram = true) :
    readSram a s = (s.sram.read (a.toNat - 0x6000), s) := if_pos hs

theorem readSram_of_absent (a : Addr) {s : State} (hs : s.cart.hasSram = false) :
    readSram a s = (0x00, reportAddrError a .read s) := by
  simp [readSram, hs]

theorem writeSram_of_present (a : Addr) (v : Byte) {s : State} (hs : s.cart.hasSram = true) :
    writeSram a v s = s.setSram (s.sram.write (a.toNat - 0x6000) v) := if_pos hs

theorem writeSram_of_absent (a : Addr) (v : Byte) {s : State} (hs : s.cart.hasSram = false) :
    writeSram a v s = reportAddrError a .write s := by
  simp [writeSram, hs]

section
variable {a : Addr} (v : Byte) (s : State)

/-- A write to the SRAM window (R48, R50). -/
theorem busWrite_of_sram (h : 0x6000 ≤ a.toNat) (h' : a.toNat < 0x8000) : busWrite a v s = writeSram a v s := by
  unfold busWrite
  rw [if_neg (by omega), if_neg (by omega), if_neg (by omega), if_neg (by omega), if_neg (by omega), if_neg (by omega),
    if_pos h']

/-- A write to the PRG window is discarded (R51). -/
theorem busWrite_of_prg (h : 0x8000 ≤ a.toNat) : busWrite a v s = s := by
  unfold busWrite
  rw [if_neg (by omega), if_neg (by omega), if_neg (by omega), if_neg (by omega), if_neg (by omega), if_neg (by omega),
    if_neg (by omega)]

/-- A write to a stub or to open bus is discarded (R44, R46, R47). -/
theorem busWrite_of_stub (h : 0x4000 ≤ a.toNat) (h' : a.toNat < 0x6000) (hdma : a.toNat ≠ 0x4014) :
    busWrite a v s = s := by
  unfold busWrite
  rw [if_neg (by omega), if_neg (by omega), if_neg hdma, if_pos h', ite_self, ite_self]

/-- A read of a stub or of open bus gives a constant and has no side effect (R44 to R47). -/
theorem busRead_of_stub (h : 0x4000 ≤ a.toNat) (h' : a.toNat < 0x6000) :
    busRead a s =
      (if a.toNat = 0x4016 then s.params.ctrl1Const else if a.toNat = 0x4017 then s.params.ctrl2Const else 0x00, s) := by
  unfold busRead
  rw [if_neg (by omega), if_neg (by omega), if_pos h']
  by_cases h16 : a.toNat = 0x4016
  · simp [h16]
  · by_cases h17 : a.toNat = 0x4017
    · simp [h17]
    · simp [h16, h17]

end

/-- The PRG index with one unit: the unit appears twice (R49). -/
theorem prgIndex_one_unit {c : Cartridge} (hc : c.prgUnits = 1) (a : Addr) : prgIndex c a = a.toNat % 0x4000 := if_pos hc

/-- The PRG index with two units (R49). -/
theorem prgIndex_two_units {c : Cartridge} (hc : c.prgUnits = 2) (a : Addr) : prgIndex c a = a.toNat - 0x8000 := by
  simp [prgIndex, hc]

/-! ## The register window's address decode (R43, R56) -/

/-- The bits 0xE007 of an address are its 8 KiB block and its register index. -/
theorem and_windowMask_toNat (a : Addr) : (a &&& 0xE007).toNat = a.toNat / 2 ^ 13 * 2 ^ 13 + a.toNat % 2 ^ 3 := by
  have ha := a.isLt
  have hhigh : (a.toNat &&& 0xE007) / 2 ^ 13 = a.toNat / 2 ^ 13 := by
    rw [Nat.and_div_two_pow, show 0xE007 / 2 ^ 13 = 2 ^ 3 - 1 from rfl, Nat.and_two_pow_sub_one_eq_mod]
    omega
  have hlow : (a.toNat &&& 0xE007) % 2 ^ 13 = a.toNat % 2 ^ 3 := by
    rw [Nat.and_mod_two_pow, show 0xE007 % 2 ^ 13 = 2 ^ 3 - 1 from rfl, Nat.and_two_pow_sub_one_eq_mod]
    omega
  rw [BitVec.toNat_and, show (0xE007 : Addr).toNat = 0xE007 from rfl]
  omega

/-- The addresses of one register of the PPU window. -/
theorem and_windowMask_eq_iff (a r : Addr) (hr : r.toNat < 8) :
    a &&& 0xE007 = 0x2000 + r ↔ (0x2000 ≤ a.toNat ∧ a.toNat < 0x4000) ∧ a.toNat % 8 = r.toNat := by
  rw [← BitVec.toNat_inj, and_windowMask_toNat, BitVec.toNat_add, show (0x2000 : Addr).toNat = 0x2000 from rfl]
  omega

/-- A register read other than of the status and the data port has no side effect (R229, R235). -/
theorem ppuRegRead_of_plain {r : Nat} (h2 : r ≠ 2) (h7 : r ≠ 7) (s : State) : (ppuRegRead r s).2 = s := by
  rw [ppuRegRead, if_neg h2, if_neg h7]
  split_ifs <;> rfl

/-- A data port read moves the buffer and the address (R233). -/
theorem ppuRegRead_data_state (s : State) :
    (ppuRegRead 7 s).2 = { s with ppu := { s.ppu with
      readBuf := (ppuRegRead 7 s).2.ppu.readBuf, vaddr := nextVaddr s.ppu } } := by
  change (readData s).2 = { s with ppu := { s.ppu with readBuf := (readData s).2.ppu.readBuf, vaddr := nextVaddr s.ppu } }
  unfold readData
  dsimp only
  split_ifs <;> rfl

/-! ## Reads without a side effect (R56) -/

/-- Every read but those of R56 changes nothing. -/
theorem busRead_of_plain {a : Addr} {s : State} (h2 : a &&& 0xE007 ≠ 0x2002) (h7 : a &&& 0xE007 ≠ 0x2007)
    (hsram : ¬ (0x6000 ≤ a.toNat ∧ a.toNat < 0x8000 ∧ s.cart.hasSram = false)) : (busRead a s).2 = s := by
  rcases Nat.lt_or_ge a.toNat 0x2000 with hram | hge
  · rw [busRead_of_ram hram]
  rcases Nat.lt_or_ge a.toNat 0x4000 with hwindow | hge'
  · rw [busRead_of_window hge hwindow]
    exact ppuRegRead_of_plain (fun hr => h2 ((and_windowMask_eq_iff a 2 (by decide)).2 ⟨⟨hge, hwindow⟩, hr⟩))
      (fun hr => h7 ((and_windowMask_eq_iff a 7 (by decide)).2 ⟨⟨hge, hwindow⟩, hr⟩)) s
  rcases Nat.lt_or_ge a.toNat 0x6000 with hstub | hge''
  · rw [busRead_of_stub s hge' hstub]
  rcases Nat.lt_or_ge a.toNat 0x8000 with hlt | hprg
  · have hs : s.cart.hasSram = true := by simpa [hge'', hlt] using hsram
    rw [busRead_of_sram hge'' hlt, readSram_of_present a hs]
  · rw [busRead_of_prg hprg]

end Sys2Proof.Machine
end

section
/-! The statements on the regions of the CPU bus. -/

namespace Sys2Proof.Proofs

open Sys2Proof.Machine

/-- Settles O47: the regions' rules, with the PPU window's registers picked out by the mask 0xE007. -/
theorem busReadSideEffects : Obligations.BusReadSideEffects := by
  intro a s
  refine ⟨fun h => busRead_of_ram h s, fun h h' => busRead_of_window h h' s, ?present, ?status, ?data, ?absent,
    busRead_of_plain⟩
  case present =>
    intro h h' hs
    rw [busRead_of_sram h h', readSram_of_present a hs]
  case status =>
    intro h
    obtain ⟨⟨hge, hlt⟩, hr⟩ := (and_windowMask_eq_iff a 2 (by decide)).1 h
    rw [busRead_of_window hge hlt, hr]
    rfl
  case data =>
    intro h
    obtain ⟨⟨hge, hlt⟩, hr⟩ := (and_windowMask_eq_iff a 7 (by decide)).1 h
    rw [busRead_of_window hge hlt, hr]
    exact ppuRegRead_data_state s
  case absent =>
    intro h h' hs
    rw [busRead_of_sram h h', readSram_of_absent a hs]
    rfl

/-- Settles O48: a RAM byte's four addresses have one index. -/
theorem ramReadAfterWrite : Obligations.RamReadAfterWrite := by
  intro a b v s ha hb
  rw [busWrite_of_ram ha, busRead_of_ram hb, busRead_of_ram hb, State.setRam_ram, Memory.read_write]
  simp only [eq_comm (a := b.toNat % 0x800)]
  rfl

/-- Settles O50: the window's addresses have distinct SRAM indexes. -/
theorem sramWindow : Obligations.SramWindow := by
  intro a b v s h h'
  refine ⟨fun hs hb hb' => ?_, fun hs => ?_⟩
  · have hidx : b.toNat - 0x6000 = a.toNat - 0x6000 ↔ a = b := by
      rw [← BitVec.toNat_inj]
      omega
    rw [busWrite_of_sram v s h h', writeSram_of_present a v hs, busRead_of_sram hb hb', busRead_of_sram hb hb',
      readSram_of_present b hs, readSram_of_present b (by exact hs), State.setSram_sram, Memory.read_write]
    simp only [hidx]
    rfl
  · rw [busWrite_of_sram v s h h', writeSram_of_absent a v hs]
    rfl

/-- Settles O49 by the rules of the stub and PRG windows. -/
theorem stubOpenBusAndPrgWindows : Obligations.StubOpenBusAndPrgWindows := by
  intro a v s
  refine ⟨busRead_of_stub s, busWrite_of_stub v s, busWrite_of_prg v s, fun h hc => ?_, fun h hc => ?_⟩
  · rw [busRead_of_prg h, readPrg, prgIndex_one_unit hc]
  · rw [busRead_of_prg h, readPrg, prgIndex_two_units hc]

end Sys2Proof.Proofs
end

section
/-! SUPPORT. The OAM-DMA transfer (spec/20_memory.md R45): the machine's copies are the statements', each cell of OAM holds the
byte its copy read, and what the reads of a quiet page and of absent SRAM leave. -/

namespace Sys2Proof.Machine

open Sys2Proof.Claims

variable (page : Byte) (s : State)

/-! ## The copies in order -/

theorem dmaCopies_succ (n : Nat) :
    dmaCopies page (n + 1) s =
      (busRead (word page (BitVec.ofNat 8 n)) (dmaCopies page n s)).2.setOam
        ((dmaCopies page n s).oam.write (((dmaCopies page n s).ppu.oamAddr.toNat + n) % 256)
          (busRead (word page (BitVec.ofNat 8 n)) (dmaCopies page n s)).1) := by
  rw [dmaCopies, join_eq_word]
  rfl

/-- The machine's copies from the `m`-th on, after the first `m`, are all the 256 copies. -/
theorem oamDmaCopies_dmaCopies {n m : Nat} (h : n + m = 256) :
    oamDmaCopies page n (dmaCopies page m s) = dmaCopies page 256 s := by
  induction n generalizing m with
  | zero => rw [← h, Nat.zero_add, oamDmaCopies]
  | succ n ih =>
    have hindex : 255 - n = m := by omega
    have hcell : ∀ o : Byte, (o + BitVec.ofNat 8 m).toNat = (o.toNat + m) % 256 := fun o => by
      rw [BitVec.toNat_add, BitVec.toNat_ofNat, Nat.add_mod_mod]
    rw [oamDmaCopies, hindex, hcell, busRead_oam, busRead_ppu_oamAddr, ← dmaCopies_succ]
    exact ih (by omega)

/-- The machine's transfer is the 256 copies in increasing order. -/
theorem oamDmaCopies_eq : oamDmaCopies page 256 s = dmaCopies page 256 s :=
  oamDmaCopies_dmaCopies page s (m := 0) rfl

@[simp] theorem dmaCopies_oamAddr (n : Nat) : (dmaCopies page n s).ppu.oamAddr = s.ppu.oamAddr := by
  induction n with
  | zero => rfl
  | succ n ih => rw [dmaCopies_succ, State.setOam_ppu, busRead_ppu_oamAddr, ih]

@[simp] theorem dmaCopies_cart (n : Nat) : (dmaCopies page n s).cart = s.cart := by
  induction n with
  | zero => rfl
  | succ n ih => rw [dmaCopies_succ, State.setOam_cart, busRead_cart, ih]

/-- A copy's cell holds the byte the copy read: the 256 cells are distinct. -/
theorem dmaCopies_oam_read {k n : Nat} (hk : k < n) (hn : n ≤ 256) :
    (dmaCopies page n s).oam.read ((s.ppu.oamAddr.toNat + k) % 256) =
      (busRead (word page (BitVec.ofNat 8 k)) (dmaCopies page k s)).1 := by
  induction n with
  | zero => omega
  | succ n ih =>
    rw [dmaCopies_succ, State.setOam_oam, dmaCopies_oamAddr]
    rcases Nat.lt_succ_iff_lt_or_eq.1 hk with hlt | rfl
    · rw [Memory.read_write_other _ _ (by omega)]
      exact ih hlt (by omega)
    · rw [Memory.read_write_same]

/-! ## A quiet page -/

/-- Reads of a quiet page have no side effect, and what they give does not depend on OAM or the PPU's registers (R56). -/
theorem busRead_of_quietPage {page : Byte} {s : State} (h : quietPage page s) (i : Byte) (m : Memory) (u : Ppu) :
    busRead (word page i) { s with oam := m, ppu := u } =
      ((busRead (word page i) s).1, { s with oam := m, ppu := u }) := by
  have ha := word_toNat page i
  have hi := i.isLt
  have hregion : (word page i).toNat < 0x2000 ∨ (0x4000 ≤ (word page i).toNat ∧ (word page i).toNat < 0x6000) ∨
      ((0x6000 ≤ (word page i).toNat ∧ (word page i).toNat < 0x8000) ∧ s.cart.hasSram = true) ∨
      0x8000 ≤ (word page i).toNat := by
    unfold quietPage at h
    by_cases hs : s.cart.hasSram = true
    · simp only [hs, or_true, and_true] at h ⊢
      omega
    · simp only [hs, or_false, and_false, Bool.false_eq_true] at h ⊢
      omega
  rcases hregion with hram | ⟨hge, hlt⟩ | ⟨⟨hge, hlt⟩, hs⟩ | hprg
  · rw [busRead_of_ram hram, busRead_of_ram hram]
  · rw [busRead_of_stub _ hge hlt, busRead_of_stub _ hge hlt]
  · rw [busRead_of_sram hge hlt, busRead_of_sram hge hlt, readSram_of_present _ hs, readSram_of_present _ (by exact hs)]
  · rw [busRead_of_prg hprg, busRead_of_prg hprg]

/-- Copies from a quiet page change OAM alone. -/
theorem dmaCopies_of_quietPage {page : Byte} {s : State} (h : quietPage page s) (n : Nat) :
    ∃ m, dmaCopies page n s = s.setOam m := by
  induction n with
  | zero => exact ⟨s.oam, rfl⟩
  | succ n ih =>
    obtain ⟨m, hm⟩ := ih
    have hread : busRead (word page (BitVec.ofNat 8 n)) (s.setOam m) = (_, s.setOam m) :=
      busRead_of_quietPage h (BitVec.ofNat 8 n) m s.ppu
    rw [dmaCopies_succ, hm, hread]
    exact ⟨_, rfl⟩

/-! ## Absent SRAM -/

/-- A read of absent SRAM records its address and gives 0x00 (R50). -/
theorem busRead_of_absentSram {page : Byte} {s : State} (h : 0x60 ≤ page.toNat) (h' : page.toNat < 0x80)
    (hs : s.cart.hasSram = false) (i : Byte) :
    busRead (word page i) s = (0x00, reportAddrError (word page i) .read s) := by
  have ha := word_toNat page i
  have hi := i.isLt
  rw [busRead_of_sram (by omega) (by omega), readSram_of_absent _ hs]

/-- Copies from absent SRAM change OAM and record an AddressError each (R50). -/
theorem dmaCopies_of_absentSram {page : Byte} {s : State} (h : 0x60 ≤ page.toNat) (h' : page.toNat < 0x80)
    (hs : s.cart.hasSram = false) (n : Nat) :
    ∃ m, dmaCopies page (n + 1) s = { s with
      oam := m
      addrError := some { addr := word page (BitVec.ofNat 8 n), kind := .read }
      addrErrorCount := s.addrErrorCount + (n + 1) } := by
  have hread := fun n => busRead_of_absentSram h h' (s := dmaCopies page n s) (by rw [dmaCopies_cart, hs])
  induction n with
  | zero =>
    rw [dmaCopies_succ, hread]
    exact ⟨_, rfl⟩
  | succ n ih =>
    obtain ⟨m, hm⟩ := ih
    rw [dmaCopies_succ, hread, hm]
    exact ⟨_, rfl⟩

/-! ## The write that starts the transfer -/

theorem writeOamDma_of_disabled {s : State} (h : s.params.oamDmaEnable = false) (b : Byte) :
    writeOamDma b s = s.setPpu { s.ppu with oamDma := b } := by
  simp [writeOamDma, h]

theorem writeOamDma_of_enabled {s : State} (h : s.params.oamDmaEnable = true) (b : Byte) :
    writeOamDma b s = (dmaCopies b 256 (s.setPpu { s.ppu with oamDma := b })).setPending
      (s.pending + 513 + s.cycles.toNat % 2) := by
  simp only [writeOamDma, State.setPpu_params, h, if_true, addCost, oamDmaCopies_pending, State.setPpu_pending,
    State.setPpu_cycles, ← oamDmaCopies_eq, Nat.add_assoc]

end Sys2Proof.Machine

namespace Sys2Proof.Proofs

open Sys2Proof.Machine Sys2Proof.Claims

/-- Settles O51: `ht` is the transfer as the statements' copies, `hcopied` the byte each cell of OAM then holds; the other clauses
are what the reads of a quiet page and of absent SRAM give. -/
theorem oamDmaTransfer : Obligations.OamDmaTransfer := by
  intro b s t copied latched cost
  have ht : s.params.oamDmaEnable = true → t = (dmaCopies b 256 latched).setPending cost :=
    fun h => writeOamDma_of_enabled h b
  have hcopied : s.params.oamDmaEnable = true → ∀ k, k < 256 →
      copied k = (busRead (word b (BitVec.ofNat 8 k)) (dmaCopies b k latched)).1 := fun h k hk => by
    have hoam : t.oam = (dmaCopies b 256 latched).oam := by rw [ht h, State.setPending_oam]
    change t.oam.read _ = _
    rw [hoam]
    exact dmaCopies_oam_read b latched hk le_rfl
  have hquiet : s.params.oamDmaEnable = true → quietPage b s → ∀ k, k < 256 →
      copied k = (busRead (word b (BitVec.ofNat 8 k)) s).1 := fun h hq k hk => by
    obtain ⟨m, hm⟩ := dmaCopies_of_quietPage (s := latched) hq k
    rw [hcopied h k hk, hm]
    exact (congrArg Prod.fst (busRead_of_quietPage hq (BitVec.ofNat 8 k) m latched.ppu) :)
  refine ⟨fun h => writeOamDma_of_disabled h b, ht, fun h hq => ⟨?quietState, fun k hk => ?quietBytes⟩,
    fun h hb k hk => ?ramBytes, fun h hb hb' hs => ⟨?absentState, fun k hk => ?absentBytes⟩⟩
  case quietState =>
    obtain ⟨m, hm⟩ := dmaCopies_of_quietPage (s := latched) hq 256
    rw [ht h, hm]
    rfl
  case quietBytes => rw [hquiet h hq k hk, join_eq_word]
  case ramBytes =>
    have ha := word_toNat b (BitVec.ofNat 8 k)
    rw [BitVec.toNat_ofNat, Nat.mod_eq_of_lt hk] at ha
    rw [hquiet h (.inl hb) k hk, busRead_of_ram (by omega), ha]
  case absentState =>
    obtain ⟨m, hm⟩ := dmaCopies_of_absentSram (s := latched) hb hb' hs 255
    rw [ht h, hm, join_eq_word]
    rfl
  case absentBytes => rw [hcopied h k hk, busRead_of_absentSram hb hb' (by rw [dmaCopies_cart]; exact hs)]

end Sys2Proof.Proofs
end

section
/-! SUPPORT. What an instruction that stores nothing can change of the memories and the PPU: what a bus read can
(spec/20_memory.md R56). -/

namespace Sys2Proof.Machine

/-- `t` has the memories of `s`, and of the PPU's registers differs at most in those a status or data port read changes. -/
structure ReadsOnly (s t : State) : Prop where
  ram : t.ram = s.ram
  vram : t.vram = s.vram
  oam : t.oam = s.oam
  pal : t.pal = s.pal
  sram : t.sram = s.sram
  ppu : ∃ vblank w readBuf vaddr,
    t.ppu = { s.ppu with vblank := vblank, w := w, readBuf := readBuf, vaddr := vaddr }

/-- A state with the same memories and PPU. -/
theorem ReadsOnly.of_eq {s t : State} (hram : t.ram = s.ram) (hvram : t.vram = s.vram) (hoam : t.oam = s.oam)
    (hpal : t.pal = s.pal) (hsram : t.sram = s.sram) (hppu : t.ppu = s.ppu) : ReadsOnly s t :=
  ⟨hram, hvram, hoam, hpal, hsram, _, _, _, _, hppu⟩

theorem ReadsOnly.trans {s t u : State} (h : ReadsOnly s t) (k : ReadsOnly t u) : ReadsOnly s u where
  ram := k.ram.trans h.ram
  vram := k.vram.trans h.vram
  oam := k.oam.trans h.oam
  pal := k.pal.trans h.pal
  sram := k.sram.trans h.sram
  ppu := by
    obtain ⟨_, _, _, _, ht⟩ := h.ppu
    obtain ⟨_, _, _, _, hu⟩ := k.ppu
    exact ⟨_, _, _, _, by rw [hu, ht]⟩

/-! ## Register writes and reads -/

theorem readsOnly_setReg (r : Reg) (v : Byte) (s : State) : ReadsOnly s (setReg r v s) := by
  cases r <;> exact .of_eq rfl rfl rfl rfl rfl rfl

theorem readsOnly_setP (v : Byte) (s : State) : ReadsOnly s (s.setP v) := .of_eq rfl rfl rfl rfl rfl rfl
theorem readsOnly_setPc (v : Addr) (s : State) : ReadsOnly s (s.setPc v) := .of_eq rfl rfl rfl rfl rfl rfl
theorem readsOnly_setPending (n : Nat) (s : State) : ReadsOnly s (s.setPending n) := .of_eq rfl rfl rfl rfl rfl rfl
theorem readsOnly_charge (n : Nat) (s : State) : ReadsOnly s (charge n s) := readsOnly_setPending _ s

theorem readsOnly_busRead (a : Addr) (s : State) : ReadsOnly s (busRead a s).2 :=
  ⟨busRead_ram a s, busRead_vram a s, busRead_oam a s, busRead_pal a s, busRead_sram a s,
    (busRead a s).2.ppu.vblank, (busRead a s).2.ppu.w, (busRead a s).2.ppu.readBuf, (busRead a s).2.ppu.vaddr,
    congrArg State.ppu (busRead_state a s)⟩

theorem readsOnly_pull (s : State) : ReadsOnly s (pull s).2 := (readsOnly_setReg .s _ s).trans (readsOnly_busRead _ _)

theorem readsOnly_pullWord (s : State) : ReadsOnly s (pullWord s).2 := (readsOnly_pull s).trans (readsOnly_pull _)

theorem readsOnly_fetchM (o : Src) (t : Timing) (s : State) : ReadsOnly s (fetchM o t s).2 := by
  cases o with
  | imm b => exact readsOnly_charge _ s
  | mem m =>
    have hlocate : ReadsOnly s (locate m t s).2 := by
      rw [locate_state]
      exact readsOnly_setPending _ s
    exact hlocate.trans (readsOnly_busRead _ _)

/-! ## The instruction families' shared operations -/

section
variable (o : Src) (t : Timing) (n : Nat) (s : State)

theorem readsOnly_loadReg (r : Reg) : ReadsOnly s (loadReg r o t s) :=
  ((readsOnly_fetchM o t s).trans (readsOnly_setReg _ _ _)).trans (readsOnly_setP _ _)

theorem readsOnly_addWithCarry : ReadsOnly s (addWithCarry o t s) :=
  ((readsOnly_fetchM o t s).trans (readsOnly_setP _ _)).trans (readsOnly_setReg .a _ _)

theorem readsOnly_subWithBorrow : ReadsOnly s (subWithBorrow o t s) :=
  ((readsOnly_fetchM o t s).trans (readsOnly_setP _ _)).trans (readsOnly_setReg .a _ _)

theorem readsOnly_logic (f : Byte → Byte → Byte) : ReadsOnly s (logic f o t s) :=
  ((readsOnly_fetchM o t s).trans (readsOnly_setReg .a _ _)).trans (readsOnly_setP _ _)

theorem readsOnly_compareReg (r : Reg) : ReadsOnly s (compareReg r o t s) :=
  (readsOnly_fetchM o t s).trans (readsOnly_setP _ _)

theorem readsOnly_bitTest : ReadsOnly s (bitTest o t s) := (readsOnly_fetchM o t s).trans (readsOnly_setP _ _)

theorem readsOnly_chargedSetP (v : Byte) : ReadsOnly s ((charge n s).setP v) :=
  (readsOnly_charge n s).trans (readsOnly_setP _ _)

theorem readsOnly_transfer (r d : Reg) : ReadsOnly s (transfer r d n s) :=
  ((readsOnly_charge n s).trans (readsOnly_setReg _ _ _)).trans (readsOnly_setP _ _)

theorem readsOnly_transferSp : ReadsOnly s (transferSp n s) := (readsOnly_charge n s).trans (readsOnly_setReg .s _ _)

theorem readsOnly_modifyReg (f : Byte → Byte) (r : Reg) : ReadsOnly s (modifyReg f r n s) :=
  ((readsOnly_charge n s).trans (readsOnly_setReg _ _ _)).trans (readsOnly_setP _ _)

theorem readsOnly_shiftAcc (f : Byte → Bool → Byte × Bool) : ReadsOnly s (shiftAcc f n s) :=
  ((readsOnly_charge n s).trans (readsOnly_setReg .a _ _)).trans (readsOnly_setP _ _)

theorem readsOnly_pullAcc : ReadsOnly s (pullAcc n s) :=
  (((readsOnly_charge n s).trans (readsOnly_pull _)).trans (readsOnly_setReg .a _ _)).trans (readsOnly_setP _ _)

theorem readsOnly_pullStatus : ReadsOnly s (pullStatus n s) :=
  ((readsOnly_charge n s).trans (readsOnly_pull _)).trans (readsOnly_setP _ _)

theorem readsOnly_jump (a : Addr) : ReadsOnly s (jump a n s) := (readsOnly_charge n s).trans (readsOnly_setPc _ _)

theorem readsOnly_jumpIndirect (p : Addr) : ReadsOnly s (jumpIndirect p n s) :=
  (((readsOnly_charge n s).trans (readsOnly_busRead _ _)).trans (readsOnly_busRead _ _)).trans (readsOnly_setPc _ _)

theorem readsOnly_returnFromSubroutine : ReadsOnly s (returnFromSubroutine n s) :=
  ((readsOnly_charge n s).trans (readsOnly_pullWord _)).trans (readsOnly_setPc _ _)

theorem readsOnly_chargedReturn : ReadsOnly s (returnFromException (charge n s)) :=
  ((((readsOnly_charge n s).trans (readsOnly_pull _)).trans (readsOnly_setP _ _)).trans (readsOnly_pullWord _)).trans
    (readsOnly_setPc _ _)

theorem readsOnly_branch (c : Bool) (off : Byte) : ReadsOnly s (branch c off n s) := by
  cases c
  · exact readsOnly_charge n s
  · exact ((readsOnly_charge n s).trans (readsOnly_setPending _ _)).trans (readsOnly_setPc _ _)

end

/-! ## Every instruction that stores nothing -/

/-- The mnemonics that store, in a mode other than the accumulator's: to `EA` or to the stack. -/
def storingMnemonics : List Mnemonic := [.sta, .stx, .sty, .inc, .dec, .pha, .php, .jsr, .brk, .asl, .lsr, .rol, .ror]

/-- An instruction of another mnemonic, or on the accumulator, changes of the memories and the PPU what reads change. -/
theorem exec_readsOnly (i : Instr) (s : State) :
    i.row.mnemonic ∉ storingMnemonics ∨ i.row.mode = .acc → NextSatisfies (ReadsOnly s) (exec i s) := by
  cases i <;> change _ → ReadsOnly s _ <;>
    simp [storingMnemonics, Instr.row, readsOnly_loadReg, readsOnly_addWithCarry, readsOnly_subWithBorrow, readsOnly_logic,
      readsOnly_compareReg, readsOnly_bitTest, readsOnly_chargedSetP, readsOnly_charge, readsOnly_transfer,
      readsOnly_transferSp, readsOnly_modifyReg, readsOnly_shiftAcc, readsOnly_pullAcc, readsOnly_pullStatus, readsOnly_jump,
      readsOnly_jumpIndirect, readsOnly_returnFromSubroutine, readsOnly_chargedReturn, readsOnly_branch]

end Sys2Proof.Machine

namespace Sys2Proof.Proofs

open Sys2Proof.Machine

/-- Settles O22: such an instruction's changes are those of reads; FB and the cartridge no instruction touches. -/
theorem nonStoringInstructionsKeepMemory : Obligations.NonStoringInstructionsKeepMemory := by
  intro i s hi
  have hreads := exec_readsOnly i s hi
  obtain ⟨t, ht, hkeeps⟩ := exec_next i s
  rw [ht] at hreads
  obtain ⟨hram, hvram, hoam, hpal, hsram, _, _, _, _, hppu⟩ := hreads
  exact ⟨t, ht, hram, hvram, hoam, hpal, hkeeps.fb, hsram, hkeeps.cart, by rw [hppu]⟩

end Sys2Proof.Proofs
end

section
/-! The statement on the nametable and palette mirrors, with the numbers behind the palette index (spec/20_memory.md R63). -/

namespace Sys2Proof.Machine

/-- The palette index repeats every 16 entries at the multiples of 4 and every 32 elsewhere. -/
theorem palIndex_eq (a : Nat) : palIndex a = if a % 4 = 0 then a % 16 else a % 32 := by
  unfold palIndex
  dsimp only
  split_ifs <;> omega

end Sys2Proof.Machine

namespace Sys2Proof.Proofs

open Sys2Proof.Machine

/-- Settles O56: the halves and the fold are arithmetic of NtIndex, the palette clauses follow from `palIndex_eq`. -/
theorem nametableAndPaletteMirrors : Obligations.NametableAndPaletteMirrors := by
  refine ⟨fun t c ht hc => ?halves, fun m a h h' => ?fold, ntIndex_lt, fun a => ?palette⟩
  case halves =>
    simp only [ntIndex]
    omega
  case fold =>
    cases m <;> simp only [ntIndex] <;> omega
  case palette =>
    refine ⟨palIndex_lt a, ?_, ?_, fun h => ?_, fun h => ?_⟩
    · simp only [palIndex_eq, List.mem_cons, List.not_mem_nil, or_false]
      split_ifs <;> omega
    · simp only [palIndex_eq]
      split_ifs <;> omega
    · rw [palIndex_eq, if_neg h]
    · rw [palIndex_eq, if_pos h]

end Sys2Proof.Proofs
end

section
/-! SUPPORT. The opcode table read both ways, and the decoder said once: an instruction's opcode byte looks it up again, what is
looked up is encoded by the bytes looked up, and what `decode` answers in each case (spec/30_encoding.md R82 to R84, R99). -/

namespace Sys2Proof

/-! ## The opcode table, read both ways -/

/-- An instruction is looked up by its opcode byte and its operand bytes, whatever follows them; a 16-bit operand is put together
from its two bytes (R83, R99). -/
theorem ofOpcode_operands (i : Instr) (rest : List Byte) :
    ofOpcode i.row.opcode ((i.operands ++ rest).getD 0 0) ((i.operands ++ rest).getD 1 0) = some i := by
  cases i <;> conv_lhs => whnf
  all_goals simp [Instr.operands]

theorem opcode_of_ofOpcode {op b1 b2 : Byte} {i : Instr} (h : ofOpcode op b1 b2 = some i) : i.row.opcode = op := by
  unfold ofOpcode at h
  split at h <;> rename_i hop <;> cases h
  all_goals exact BitVec.eq_of_toNat_eq hop.symm

theorem operands_of_ofOpcode {op b1 b2 : Byte} {i : Instr} (h : ofOpcode op b1 b2 = some i) :
    i.operands = [b1, b2].take i.operands.length := by
  unfold ofOpcode at h
  split at h <;> cases h
  all_goals simp [Instr.operands]

/-- The table gives an instruction's opcode byte its length (R84). -/
theorem opcodeLength_opcode (i : Instr) : opcodeLength i.row.opcode = some i.length := by
  rw [← ofOpcode_length, ofOpcode_operands i [], Option.map_some]

/-! ## Well-formed rows -/

/-- There is one operand byte for each byte of the length after the first (R82, R84). -/
theorem operands_length (i : Instr) : i.operands.length + 1 = i.length := by cases i <;> rfl

/-- Every row of the table is well formed: its byte is none of R100's, because the table gives it a length (R99, R100). -/
theorem wf_eq_true (i : Instr) : i.wf = true := by
  have hlegal : i.encoded.legal = true := by
    have hop : i.row.opcode.toNat ∉ illegalOpcodes := by simp [← opcodeLength_eq_none_iff, opcodeLength_opcode]
    simpa [Encoded.legal, Instr.encoded] using hop
  have hcomplete : i.encoded.complete = true := beq_iff_eq.2 (operands_length i)
  have hflagAndCost : (i.encoded.flagOk && i.encoded.costOk) = true := by cases i <;> rfl
  rw [Instr.wf, Encoded.wf, hlegal, hcomplete, Bool.and_assoc, hflagAndCost]
  rfl

/-! ## The decoder -/

section
variable {op : Byte} {bs : List Byte}

theorem decode_of_illegal (h : opcodeLength op = none) : decode (op :: bs) = .error (.illegalOpcode op) := by
  simp only [decode, h]

/-- An opcode byte of the table decodes unless the bytes end before its instruction does. -/
theorem decode_of_ofOpcode {i : Instr} (h : ofOpcode op (bs.getD 0 0) (bs.getD 1 0) = some i) :
    decode (op :: bs) =
      if bs.length < i.operands.length then .error .truncated else .ok (i, bs.drop i.operands.length) := by
  have hlen : opcodeLength op = some (i.operands.length + 1) := by
    rw [← ofOpcode_length, h, Option.map_some, operands_length]
  simp only [decode, hlen, h, Nat.add_lt_add_iff_right, Nat.add_sub_cancel]

/-- Exactly the bytes to which the table gives no length are illegal. -/
theorem decode_eq_illegal_iff : decode (op :: bs) = .error (.illegalOpcode op) ↔ opcodeLength op = none := by
  refine ⟨fun h => ?_, decode_of_illegal⟩
  cases hi : ofOpcode op (bs.getD 0 0) (bs.getD 1 0) with
  | none => rw [← ofOpcode_length, hi, Option.map_none]
  | some i =>
    rw [decode_of_ofOpcode hi] at h
    split_ifs at h
    cases h

end

/-- Decoding an encoding gives the instruction back and leaves the bytes after it (R82, R83). -/
theorem decode_encode_append (i : Instr) (rest : List Byte) : decode (encode i ++ rest) = .ok (i, rest) := by
  have hlen : ¬ (i.operands ++ rest).length < i.operands.length := by simp
  rw [encode, List.cons_append, decode_of_ofOpcode (ofOpcode_operands i rest), if_neg hlen, List.drop_left]

theorem decode_encode (i : Instr) : decode (encode i) = .ok (i, []) := by
  rw [← List.append_nil (encode i), decode_encode_append]

/-- The first two bytes of a list are those `getD` gives. -/
theorem take_getD_pair {bs : List Byte} {n : Nat} (h : n ≤ bs.length) (h2 : n ≤ 2) :
    [bs.getD 0 0, bs.getD 1 0].take n = bs.take n := by
  match bs, n with
  | _, 0 => rfl
  | b :: _, 1 => rfl
  | b :: c :: _, 2 => simp

/-- What decodes to an instruction is its encoding, followed by the bytes left (R82, R84). -/
theorem eq_encode_append_of_decode {bs rest : List Byte} {i : Instr} (h : decode bs = .ok (i, rest)) :
    bs = encode i ++ rest := by
  cases bs with
  | nil => cases h
  | cons op bs =>
    cases hj : ofOpcode op (bs.getD 0 0) (bs.getD 1 0) with
    | none =>
      rw [decode_of_illegal (by rw [← ofOpcode_length, hj, Option.map_none])] at h
      cases h
    | some j =>
      rw [decode_of_ofOpcode hj] at h
      split_ifs at h with hlen
      cases h
      have hops := operands_of_ofOpcode hj
      have hle : i.operands.length ≤ 2 := by simpa using congrArg List.length hops
      rw [take_getD_pair (Nat.not_lt.1 hlen) hle] at hops
      rw [encode, opcode_of_ofOpcode hj, List.cons_append]
      nth_rw 1 [hops]
      rw [List.take_append_drop]

end Sys2Proof
end

section
/-! The statements on the decoder and the encoder. -/

namespace Sys2Proof.Proofs

/-- Settles O1: every row is well formed, so the round trip holds of all instructions. -/
theorem decodeEncodeRoundTrip : Obligations.DecodeEncodeRoundTrip := fun i rest _ => decode_encode_append i rest

/-- Settles O2. -/
theorem decodedBytesAreTheEncoding : Obligations.DecodedBytesAreTheEncoding :=
  fun _ _ i h => ⟨wf_eq_true i, eq_encode_append_of_decode h⟩

/-- Settles O3: the refused bytes are those without a length, which are R100's. -/
theorem illegalOpcodesRefused : Obligations.IllegalOpcodesRefused :=
  ⟨rfl, fun op _ => decode_eq_illegal_iff.trans (opcodeLength_eq_none_iff op)⟩

/-- Settles O4, by running the decoder on the nine words. -/
theorem specWordsDecode : Obligations.SpecWordsDecode := ⟨rfl, rfl, rfl, rfl, rfl, rfl, rfl, rfl, rfl⟩

end Sys2Proof.Proofs
end

section
/-! The statement on the fetch step: the fetch finds the instruction whose encoding stands at `pc` (spec/30_encoding.md R80). -/

namespace Sys2Proof.Machine

/-- A fetch at the encoding of an instruction finds it, with its bytes read and `pc` past them (R80). -/
theorem fetch_of_encode {s : State} {i : Instr} (h : (fetchBytes i.length s.pc s).1 = encode i) :
    fetch s = .instr i ((fetchBytes i.length s.pc s).2.setPc (s.pc + BitVec.ofNat 16 i.length)) := by
  rw [← operands_length, fetchBytes] at h ⊢
  have hop : (busRead s.pc s).1 = i.row.opcode := (List.cons.inj h).1
  have hlen : opcodeLength (busRead s.pc s).1 = some (i.operands.length + 1) := by
    rw [hop, opcodeLength_opcode, operands_length]
  have hdecode := (congrArg decode h).trans (decode_encode i)
  simp only [fetch, hlen, Nat.add_sub_cancel, hdecode]

/-- A step at an instruction boundary is a fetch step, and then counts itself (R290, R296). -/
theorem step_of_atFetch {s : State} (h : atFetch s = true) : step s = afterNext countTick (fetchStep s) := by
  simp only [atFetch, Bool.and_eq_true, beq_iff_eq, Bool.not_eq_true'] at h
  obtain ⟨⟨⟨hhalted, hmaster⟩, hpending⟩, hlatch⟩ := h
  simp [step, tick, cpuStep, hhalted, hmaster, hpending, hlatch]

end Sys2Proof.Machine

namespace Sys2Proof.Proofs

open Sys2Proof.Machine

/-- Settles O5: the step is a fetch step, and its fetch finds the instruction. -/
theorem stepRunsDecodedInstruction : Obligations.StepRunsDecodedInstruction := by
  intro s i hfetch hbytes
  rw [step_of_atFetch hfetch, fetchStep, fetch_of_encode hbytes]
  rfl

end Sys2Proof.Proofs
end

section
/-! SUPPORT. The machine's addressing modes beside the statements': `EA`, the page-cross report and the state of every memory
mode (spec/30_encoding.md R88 to R96, R104). -/

namespace Sys2Proof.Machine

open Sys2Proof.Claims

/-- Pages are the numbers above the low byte (R104). -/
theorem otherPage_eq (a b : Addr) : otherPage a b = (a.toNat / 256 != b.toNat / 256) := by
  rw [otherPage, Bool.eq_iff_iff, bne_iff_ne, bne_iff_ne, ← hi_toNat, ← hi_toNat, ne_eq, ne_eq, BitVec.toNat_inj]

/-- A page-zero pointer read changes nothing (R95, R96). -/
theorem busReadZp16_state (z : Byte) (s : State) : (busReadZp16 z s).2 = s := by rw [busReadZp16_eq]

/-- A page-zero pointer read gives the statements' pointer (R95, R96). -/
theorem busReadZp16_toNat (z : Byte) (s : State) : (busReadZp16 z s).1.toNat = pointer z.toNat s := by
  rw [busReadZp16_eq, word_toNat, pointer, Nat.mod_eq_of_lt z.isLt, BitVec.toNat_add]
  exact (Nat.add_comm _ _).trans (congrArg _ (Nat.mul_comm _ _))

/-- The machine's address of a mode is the statements' `EA`. -/
theorem resolve_ea_toNat (m : MemOp) (s : State) : (resolve m s).ea.toNat = ea m s := by
  cases m <;> simp [resolve, indexed, busReadZp16_state, busReadZp16_toNat, ea, base16]

/-- The machine's page-cross report compares the pages of `base16` and `EA` (R104). -/
theorem resolve_crossed (m : MemOp) (s : State) : (resolve m s).crossed = (base16 m s / 256 != ea m s / 256) := by
  cases m <;> simp [resolve, indexed, busReadZp16_state, busReadZp16_toNat, ea, base16, otherPage_eq]

/-- `EA` is an address, so that `eaAddr` loses nothing of it. -/
theorem ea_lt (m : MemOp) (s : State) : ea m s < 65536 := by
  rw [← resolve_ea_toNat]
  exact BitVec.isLt _

theorem eaAddr_toNat (m : MemOp) (s : State) : (eaAddr m s).toNat = ea m s := by
  rw [eaAddr, BitVec.toNat_ofNat, Nat.mod_eq_of_lt (ea_lt m s)]

/-- Locating an operand gives `EA` and charges the base cost and the page-cross penalty, and nothing else (R81, R104). -/
theorem locate_eq (m : MemOp) (t : Timing) (s : State) :
    locate m t s = (eaAddr m s, { s with pending := t.base - 1 + penalty t.pageCross m s }) := by
  have haddr : (locate m t s).1 = eaAddr m s := by
    rw [← BitVec.toNat_inj, eaAddr_toNat, ← resolve_ea_toNat, ← resolve_charge_ea m t.base]
    rfl
  have hstate : (locate m t s).2 = s.setPending (t.base - 1 + penalty t.pageCross m s) := by
    rw [locate_state, resolve_charge_crossed, resolve_crossed, penalty]
  exact Prod.ext haddr hstate

end Sys2Proof.Machine
end

section
/-! SUPPORT. The cycle cost of every instruction (spec/30_encoding.md R81): what each shared operation leaves in the pending
counter, which holds the cost less one (log 6). -/

namespace Sys2Proof.Machine

open Sys2Proof.Claims

/-! ## The penalties -/

/-- The OAM-DMA cost of an instruction that writes `EA` (spec/20_memory.md R45). -/
def dmaPenalty (m : MemOp) (s : State) : Nat :=
  if s.params.oamDmaEnable && ea m s == 0x4014 then 513 + s.cycles.toNat % 2 else 0

/-- What a branch costs beside its base: 1 taken, 2 into another page (spec/44_control.md R181). -/
def branchPenalty (taken : Bool) (off : Byte) (s : State) : Nat :=
  if taken then if (target off s.pc).toNat / 256 = s.pc.toNat / 256 then 1 else 2 else 0

@[simp] theorem penalty_false (m : MemOp) (s : State) : penalty false m s = 0 := rfl

/-- The machine's branch target is the statements' (R97). -/
theorem branchTarget_eq (pc : Addr) (off : Byte) : branchTarget pc off = target off pc := by
  rw [branchTarget, sext, BitVec.signExtend, target, BitVec.ofInt_add, BitVec.ofInt_natCast, BitVec.ofNat_toNat,
    BitVec.setWidth_eq]

/-! ## Operations on a memory operand -/

@[simp] theorem locate_pending (m : MemOp) (t : Timing) (s : State) :
    (locate m t s).2.pending = t.base - 1 + penalty t.pageCross m s := by rw [locate_eq]

@[simp] theorem fetchM_imm_pending (b : Byte) (t : Timing) (s : State) :
    (fetchM (.imm b) t s).2.pending = t.base - 1 := rfl

@[simp] theorem fetchM_mem_pending (m : MemOp) (t : Timing) (s : State) :
    (fetchM (.mem m) t s).2.pending = t.base - 1 + penalty t.pageCross m s :=
  (busRead_pending _ _).trans (locate_pending m t s)

/-- Writing `EA`, whatever was read after locating it: the OAM-DMA cost is added where `EA` is 0x4014 (R45). -/
theorem busWrite_located_pending {m : MemOp} {t : Timing} {s u : State} (hpending : u.pending = (locate m t s).2.pending)
    (hparams : u.params = s.params) (hcycles : u.cycles = s.cycles) (v : Byte) :
    (busWrite (locate m t s).1 v u).pending = t.base - 1 + penalty t.pageCross m s + dmaPenalty m s := by
  rw [busWrite_pending, hpending, hparams, hcycles, locate_pending, locate_eq, eaAddr_toNat, dmaPenalty]
  simp [and_comm]

section
variable (o : Src) (m : MemOp) (t : Timing) (s : State)

@[simp] theorem loadReg_pending (r : Reg) : (loadReg r o t s).pending = (fetchM o t s).2.pending := setReg_pending _ _ _
@[simp] theorem addWithCarry_pending : (addWithCarry o t s).pending = (fetchM o t s).2.pending := rfl
@[simp] theorem subWithBorrow_pending : (subWithBorrow o t s).pending = (fetchM o t s).2.pending := rfl
@[simp] theorem logic_pending (f : Byte → Byte → Byte) : (logic f o t s).pending = (fetchM o t s).2.pending := rfl
@[simp] theorem compareReg_pending (r : Reg) : (compareReg r o t s).pending = (fetchM o t s).2.pending := rfl
@[simp] theorem bitTest_pending : (bitTest o t s).pending = (fetchM o t s).2.pending := rfl

@[simp] theorem storeReg_pending (r : Reg) :
    (storeReg r m t s).pending = t.base - 1 + penalty t.pageCross m s + dmaPenalty m s :=
  busWrite_located_pending rfl (locate_params m t s) (locate_cycles m t s) _

@[simp] theorem modifyMem_pending (f : Byte → Byte) :
    (modifyMem f m t s).pending = t.base - 1 + penalty t.pageCross m s + dmaPenalty m s :=
  busWrite_located_pending (busRead_pending _ _) (by simp) (by simp) _

@[simp] theorem shiftMem_pending (f : Byte → Bool → Byte × Bool) :
    (shiftMem f m t s).pending = t.base - 1 + penalty t.pageCross m s + dmaPenalty m s :=
  busWrite_located_pending (busRead_pending _ _) (by simp) (by simp) _

end

/-! ## Operations without one -/

section
variable (n : Nat) (s : State)

@[simp] theorem transfer_pending (r d : Reg) : (transfer r d n s).pending = n - 1 := setReg_pending _ _ _
@[simp] theorem transferSp_pending : (transferSp n s).pending = n - 1 := rfl
@[simp] theorem modifyReg_pending (f : Byte → Byte) (r : Reg) : (modifyReg f r n s).pending = n - 1 := setReg_pending _ _ _
@[simp] theorem shiftAcc_pending (f : Byte → Bool → Byte × Bool) : (shiftAcc f n s).pending = n - 1 := rfl
@[simp] theorem pushByte_pending (v : Byte) : (pushByte v n s).pending = n - 1 := by rw [pushByte, push_eq]; rfl
@[simp] theorem pullAcc_pending : (pullAcc n s).pending = n - 1 := by rw [pullAcc, pull_eq]; rfl
@[simp] theorem pullStatus_pending : (pullStatus n s).pending = n - 1 := by rw [pullStatus, pull_eq]; rfl
@[simp] theorem jump_pending (a : Addr) : (jump a n s).pending = n - 1 := rfl

@[simp] theorem jumpIndirect_pending (a : Addr) : (jumpIndirect a n s).pending = n - 1 := by
  simp [jumpIndirect, busReadPw16, busReadPair]

@[simp] theorem callSubroutine_pending (a : Addr) : (callSubroutine a n s).pending = n - 1 := by
  rw [callSubroutine, pushWord_eq]; rfl

@[simp] theorem returnFromSubroutine_pending : (returnFromSubroutine n s).pending = n - 1 := by
  rw [returnFromSubroutine, pullWord_eq]; rfl

@[simp] theorem chargedReturn_pending : (returnFromException (charge n s)).pending = n - 1 := by
  rw [returnFromException_eq]; rfl

@[simp] theorem chargedBrk_pending (ret : Addr) (status : Byte) :
    (enterException ret status brkVector (charge n s)).pending = n - 1 := by
  rw [enterException_eq ret status (by decide) (by decide)]; rfl

@[simp] theorem branch_pending (taken : Bool) (off : Byte) :
    (branch taken off n s).pending = n - 1 + branchPenalty taken off s := by
  cases taken with
  | false => rfl
  | true =>
    change n - 1 + (if otherPage (branchTarget s.pc off) s.pc then 2 else 1) = _
    rw [branchTarget_eq, otherPage_eq, branchPenalty, if_pos rfl]
    by_cases h : (target off s.pc).toNat / 256 = s.pc.toNat / 256 <;> simp [h]

end

/-! ## Every instruction -/

/-- The cost of an instruction: its row's base cost and the penalties (R81). -/
def totalCost (i : Instr) (s : State) : Nat := i.row.base + pageCost i s + branchCost i s + dmaCost i s

theorem getLsbD_eq_beq (p : Byte) (n : Nat) : p.getLsbD n = (p.toNat / 2 ^ n % 2 == 1) := by
  rw [BitVec.getLsbD, Nat.testBit_eq_decide_div_mod_eq]
  rfl

theorem not_mod_two_beq_one (n : Nat) : (!(n % 2 == 1)) = (n % 2 == 0) := by
  rcases Nat.mod_two_eq_zero_or_one n with h | h <;> rw [h] <;> rfl

/-- A branch costs its base and the penalty of its condition. -/
theorem exec_totalCost_of_branch {i : Instr} {taken : Bool} {off : Byte} {s : State}
    (hexec : exec i s = .next (branch taken off i.row.base s)) (htaken : branchTaken i.row.mnemonic s.p = some taken)
    (hoperands : i.operands = [off]) (hmem : memOf i = none) (hbase : 0 < i.row.base) :
    NextSatisfies (fun t => t.pending + 1 = totalCost i s) (exec i s) := by
  have hbranch : branchCost i s = branchPenalty taken off s := by
    cases taken <;> simp [branchCost, htaken, hoperands, branchPenalty]
  rw [hexec]
  change State.pending _ + 1 = _
  simp only [branch_pending, totalCost, hbranch, pageCost, dmaCost, hmem]
  omega

/-- What an instruction leaves in the pending counter is its cost less one: the operation its arm calls leaves the base cost and the
penalties that its row and its mnemonic give it. -/
theorem exec_totalCost (i : Instr) (s : State) : NextSatisfies (fun t => t.pending + 1 = totalCost i s) (exec i s) := by
  cases i
  case bpl | bmi | bvc | bvs | bcc | bcs | bne | beq =>
    refine exec_totalCost_of_branch rfl ?_ rfl rfl Nat.two_pos
    simp only [Instr.row, branchTaken, flagN, flagV, flagC, flagZ, getLsbD_eq_beq, not_mod_two_beq_one, Nat.reducePow,
      Nat.div_one]
  all_goals
    change State.pending _ + 1 = _
    simp [totalCost, pageCost, branchCost, branchTaken, dmaCost, dmaPenalty, writesEa, memOf, Instr.row, Instr.operands,
      Nat.div_add_mod', Nat.add_right_comm _ _ 1]

end Sys2Proof.Machine

namespace Sys2Proof.Proofs

open Sys2Proof.Machine Sys2Proof.Claims

/-- Settles O18. -/
theorem effectiveAddress : Obligations.EffectiveAddress := locate_eq

/-- Settles O19: the cost is `exec_totalCost`, and the other fields are among those no instruction touches. -/
theorem everyInstructionCompletesAtItsCost : Obligations.EveryInstructionCompletesAtItsCost := by
  intro i s
  obtain ⟨t, ht, hkeeps⟩ := exec_next i s
  have hcost := exec_totalCost i s
  rw [ht] at hcost
  exact ⟨t, ht, hcost, hkeeps.cycles, hkeeps.halted, hkeeps.nmiLatch, hkeeps.master⟩

end Sys2Proof.Proofs
end

section
/-! SUPPORT. Loads, stores and transfers in the statements' words (spec/40_load_store_transfer.md): the operand, `SetNZ`, and the
shared operation that each load and each store is. -/

namespace Sys2Proof.Machine

open Sys2Proof.Claims

/-! ## Operands and flags -/

/-- The base cost and the page-cross flag of an instruction's row (R99). -/
def rowTiming (i : Instr) : Timing := ⟨i.row.base, i.row.pageCross⟩

theorem row_base_pos (i : Instr) : 0 < i.row.base := by cases i <;> exact Nat.succ_pos _

/-- The machine's "fetch M" is the statements'. -/
theorem fetchM_eq_operand (i : Instr) (o : Src) (s : State) : fetchM o (rowTiming i) s = operand i o s := by
  cases o with
  | imm b => rfl
  | mem m =>
    have hcost : i.row.base - 1 + penalty i.row.pageCross m s = i.row.base + penalty i.row.pageCross m s - 1 := by
      have := row_base_pos i
      omega
    simp only [fetchM, operand, locate_eq, rowTiming, costing, hcost]

/-- The machine's `SetNZ` is the statements'. -/
theorem nz_eq_setNegZero (v p : Byte) : nz v p = setNegZero v p := nz_eq v p

/-- `SetNZ` and a register write touch different fields. -/
theorem setNZ_setReg (r : Reg) (v w : Byte) (s : State) :
    setNZ w (setReg r v s) = setReg r v { s with p := setNegZero w s.p } := by
  rw [setNZ, setReg_p, nz_eq_setNegZero]
  cases r <;> rfl

/-! ## The bus -/

/-- A write to the OAM-DMA register (R45). -/
theorem busWrite_of_oamDma {a : Addr} (h : a.toNat = 0x4014) (v : Byte) (s : State) :
    busWrite a v s = writeOamDma v s := by
  simp [busWrite, h]

/-! ## The shared operations -/

theorem loadReg_eq (r : Reg) (i : Instr) (o : Src) (s : State) :
    loadReg r o (rowTiming i) s =
      setReg r (operand i o s).1 { (operand i o s).2 with p := setNegZero (operand i o s).1 s.p } := by
  rw [loadReg, fetchM_eq_operand, setNZ_setReg, ← fetchM_eq_operand, fetchM_p]

/-- A store is one write of `EA`; no store has a page-cross penalty (R104). -/
theorem storeReg_eq (r : Reg) (m : MemOp) (base : Nat) (s : State) :
    storeReg r m ⟨base, false⟩ s = busWrite (eaAddr m s) (getReg r s) (costing base s) := by
  rw [storeReg, locate_eq]
  cases r <;> rfl

theorem transfer_eq (src dst : Reg) (base : Nat) (s : State) :
    transfer src dst base s =
      setReg dst (getReg src s) { costing base s with p := setNegZero (getReg src s) s.p } := by
  rw [transfer, setNZ_setReg]
  rfl

/-! ## Which instructions they are -/

/-- The loads, in every mode of the table (R110 to R112). -/
theorem exec_of_load {i : Instr} (s : State) (h : i.row.mnemonic ∈ [Mnemonic.lda, .ldx, .ldy]) : ∃ (o : Src) (r : Reg),
    srcOf i = some o ∧ regOf i.row.mnemonic = some r ∧ exec i s = .next (loadReg r o (rowTiming i) s) := by
  cases i
  case ldaIndx | ldaZp | ldaImm | ldaAbs | ldaIndy | ldaZpx | ldaAbsy | ldaAbsx | ldxImm | ldxZp | ldxAbs | ldxZpy | ldxAbsy |
      ldyImm | ldyZp | ldyAbs | ldyZpx | ldyAbsx =>
    refine ⟨_, _, ?_, rfl, rfl⟩
    simp [srcOf, memOf, Instr.row, Instr.operands, Nat.div_add_mod']
  all_goals simp [Instr.row] at h

/-- The stores, in every mode of the table (R113 to R115). -/
theorem exec_of_store {i : Instr} (s : State) (h : i.row.mnemonic ∈ [Mnemonic.sta, .stx, .sty]) : ∃ (m : MemOp) (r : Reg),
    memOf i = some m ∧ regOf i.row.mnemonic = some r ∧ exec i s = .next (storeReg r m ⟨i.row.base, false⟩ s) := by
  cases i
  case staIndx | staZp | staAbs | staIndy | staZpx | staAbsy | staAbsx | stxZp | stxAbs | stxZpy | styZp | styAbs | styZpx =>
    refine ⟨_, _, ?_, rfl, rfl⟩
    simp [memOf, Instr.row, Instr.operands, Nat.div_add_mod']
  all_goals simp [Instr.row] at h

end Sys2Proof.Machine
end

section
/-! The statements on loads, stores and transfers. -/

namespace Sys2Proof.Proofs

open Sys2Proof.Machine Sys2Proof.Claims

/-- Settles O23: a load is `loadReg`, in the statements' words `loadReg_eq`. -/
theorem loadResult : Obligations.LoadResult := by
  intro i s h
  obtain ⟨o, r, ho, hr, hexec⟩ := exec_of_load s h
  exact ⟨o, r, ho, hr, by rw [hexec, loadReg_eq]⟩

/-- Settles O24: a store is one bus write, and each clause is the rule of one region of the bus. -/
theorem storeEffect : Obligations.StoreEffect := by
  intro i s h
  obtain ⟨m, r, hm, hr, hexec⟩ := exec_of_store s h
  refine ⟨m, r, hm, hr, ?_⟩
  rw [hexec, storeReg_eq, ← eaAddr_toNat]
  generalize eaAddr m s = a
  intro e v t
  refine ⟨fun h => ?ram, fun h h' => ?window, fun h hd => ?latch, fun h hd => ?transfer, fun h h' hne => ?stub,
    fun h h' hs => ?sram, fun h h' hs => ?absent, fun h => ?prg⟩
  case ram => exact congrArg _ (busWrite_of_ram h v t)
  case window => exact congrArg _ (busWrite_of_window h h' v t)
  case latch => exact congrArg _ ((busWrite_of_oamDma h v t).trans (writeOamDma_of_disabled (s := t) hd v))
  case transfer => exact congrArg _ (busWrite_of_oamDma h v t)
  case stub => exact congrArg _ (busWrite_of_stub v t h h' hne)
  case sram => exact congrArg _ ((busWrite_of_sram v t h h').trans (writeSram_of_present a v hs))
  case absent =>
    rw [BitVec.ofNat_toNat, BitVec.setWidth_eq]
    exact congrArg _ ((busWrite_of_sram v t h h').trans (writeSram_of_absent a v hs))
  case prg => exact congrArg _ (busWrite_of_prg v t h)

/-- Settles O26: a transfer writes its destination and N and Z, except TXS. -/
theorem transferResult : Obligations.TransferResult := fun s =>
  ⟨congrArg _ (transfer_eq .a .x 2 s), congrArg _ (transfer_eq .a .y 2 s), congrArg _ (transfer_eq .x .a 2 s),
    congrArg _ (transfer_eq .y .a 2 s), congrArg _ (transfer_eq .s .x 2 s), rfl⟩

end Sys2Proof.Proofs
end

section
/-! SUPPORT. What an instruction that writes `EA` can change of the memories (spec/20_memory.md R41): the one stored byte, or OAM when
the write starts a transfer; said once for the bus write, then for a store and for both read-modify-writes. -/

namespace Sys2Proof.Machine

open Sys2Proof.Claims

/-! ## The write of the bus, memory by memory -/

/-- The address reaches register `r` of the PPU window (R43). -/
abbrev portAt (a r : Nat) : Prop := 0x2000 ≤ a ∧ a < 0x4000 ∧ a % 8 = r

section
variable (a : Addr) (v : Byte) (s : State)

/-- A write stores to VRAM through the data port alone (spec/50_ppu.md R234). -/
theorem busWrite_vram :
    (busWrite a v s).vram =
      if portAt a.toNat 7 ∧ 0x2000 ≤ s.ppu.vaddr.toNat ∧ s.ppu.vaddr.toNat < 0x3F00 then
        s.vram.write (ntIndex s.cart.mirror s.ppu.vaddr.toNat) v
      else s.vram := by
  by_cases h : 0x2000 ≤ a.toNat ∧ a.toNat < 0x4000
  · rw [busWrite_of_window h.1 h.2, ppuRegWrite_vram]
    simp only [portAt, h, true_and]
  · rw [(busWrite_vram_pal h v s).1, if_neg fun hp => h ⟨hp.1.1, hp.1.2.1⟩]

/-- A write stores to the palette through the data port alone (R234). -/
theorem busWrite_pal :
    (busWrite a v s).pal =
      if portAt a.toNat 7 ∧ 0x3F00 ≤ s.ppu.vaddr.toNat then s.pal.write (palIndex s.ppu.vaddr.toNat) v else s.pal := by
  by_cases h : 0x2000 ≤ a.toNat ∧ a.toNat < 0x4000
  · rw [busWrite_of_window h.1 h.2, ppuRegWrite_pal]
    simp only [portAt, h, true_and]
  · rw [(busWrite_vram_pal h v s).2, if_neg fun hp => h ⟨hp.1.1, hp.1.2.1⟩]

/-- A write that starts no transfer stores to OAM through the OAM data port alone (R230). -/
theorem busWrite_oam_of_no_transfer (hdma : a.toNat ≠ 0x4014 ∨ s.params.oamDmaEnable = false) :
    (busWrite a v s).oam = if portAt a.toNat 4 then s.oam.write s.ppu.oamAddr.toNat v else s.oam := by
  by_cases h : 0x2000 ≤ a.toNat ∧ a.toNat < 0x4000
  · rw [busWrite_of_window h.1 h.2, ppuRegWrite_oam]
    simp only [portAt, h, true_and]
  · rw [busWrite_oam h hdma, if_neg fun hp => h ⟨hp.1, hp.2.1⟩]

end

/-! ## The stored byte and no other -/

/-- A write made only under a condition leaves the other indexes alone. -/
theorem read_write_if {c : Prop} [Decidable c] {m : Memory} {i k : Nat} (v : Byte) (h : ¬ (c ∧ k = i)) :
    (if c then m.write i v else m).read k = m.read k := by
  split_ifs with hc
  · exact Memory.read_write_other m v fun hk => h ⟨hc, hk⟩
  · rfl

/-- From `s` to `t` the memories differ at most in the byte that a write of the address `e` stores, with the data port at the address
`d`; a transfer may change all of OAM (R41, R43, R45). -/
structure StoresAt (e d : Nat) (s t : State) : Prop where
  ram : ∀ k, ¬ (e < 0x2000 ∧ k = e % 2048) → t.ram.read k = s.ram.read k
  sram : ∀ k, ¬ (0x6000 ≤ e ∧ e < 0x8000 ∧ k = e - 0x6000) → t.sram.read k = s.sram.read k
  vram_pal : ¬ portAt e 7 → t.vram = s.vram ∧ t.pal = s.pal
  vram : ∀ k, ¬ (portAt e 7 ∧ 0x2000 ≤ d ∧ d < 0x3F00 ∧ k = ntIndex s.cart.mirror d) → t.vram.read k = s.vram.read k
  pal : ∀ k, ¬ (portAt e 7 ∧ 0x3F00 ≤ d ∧ k = palIndex d) → t.pal.read k = s.pal.read k
  oam : e ≠ 0x4014 ∨ s.params.oamDmaEnable = false → ¬ portAt e 4 → t.oam = s.oam
  oamCell : e ≠ 0x4014 ∨ s.params.oamDmaEnable = false →
    ∀ k, ¬ (portAt e 4 ∧ k = s.ppu.oamAddr.toNat) → t.oam.read k = s.oam.read k

/-- A bus write stores one byte; `d` need be the data port's address only if the write reaches the port. -/
theorem storesAt_busWrite {a : Addr} {d : Nat} {s : State} (hd : portAt a.toNat 7 → s.ppu.vaddr.toNat = d) (v : Byte) :
    StoresAt a.toNat d s (busWrite a v s) where
  ram k hk := by
    rw [busWrite_ram]
    exact read_write_if v hk
  sram k hk := by
    rw [busWrite_sram]
    exact read_write_if v fun ⟨⟨hge, hlt, _⟩, h⟩ => hk ⟨hge, hlt, h⟩
  vram_pal hport := by
    rw [busWrite_vram, busWrite_pal, if_neg fun h => hport h.1, if_neg fun h => hport h.1]
    exact ⟨rfl, rfl⟩
  vram k hk := by
    rw [busWrite_vram]
    refine read_write_if v fun ⟨⟨hport, hge, hlt⟩, h⟩ => hk ?_
    rw [← hd hport]
    exact ⟨hport, hge, hlt, h⟩
  pal k hk := by
    rw [busWrite_pal]
    refine read_write_if v fun ⟨⟨hport, hge⟩, h⟩ => hk ?_
    rw [← hd hport]
    exact ⟨hport, hge, h⟩
  oam hdma hport := by rw [busWrite_oam_of_no_transfer a v s hdma, if_neg hport]
  oamCell hdma k hk := by
    rw [busWrite_oam_of_no_transfer a v s hdma]
    exact read_write_if v hk

/-- Reads made before the write change no memory and not the OAM address. -/
theorem StoresAt.of_reads {e d : Nat} {s u t : State} (hreads : ReadsOnly s u) (hkeeps : Keeps s u)
    (h : StoresAt e d u t) : StoresAt e d s t := by
  obtain ⟨hram, hvram, hoam, hpal, hsram, _, _, _, _, hppu⟩ := hreads
  obtain ⟨ram, sram, vram_pal, vram, pal, oam, oamCell⟩ := h
  rw [hkeeps.params, hppu, hoam] at oamCell
  rw [hkeeps.params, hoam] at oam
  rw [hkeeps.cart, hvram] at vram
  rw [hvram, hpal] at vram_pal
  rw [hram] at ram
  rw [hsram] at sram
  rw [hpal] at pal
  exact ⟨ram, sram, vram_pal, vram, pal, oam, oamCell⟩

theorem StoresAt.setP {e d : Nat} {s t : State} (h : StoresAt e d s t) (p : Byte) : StoresAt e d s (t.setP p) :=
  ⟨h.ram, h.sram, h.vram_pal, h.vram, h.pal, h.oam, h.oamCell⟩

/-! ## A store and a read-modify-write -/

theorem nextVaddr_toNat (u : Ppu) :
    (nextVaddr u).toNat = (u.vaddr.toNat + if u.ctrl.toNat / 4 % 2 = 1 then 32 else 1) % 0x4000 := by
  simp only [nextVaddr, BitVec.toNat_add, getLsbD_eq_beq, beq_iff_eq, Nat.reducePow]
  split_ifs <;> rfl

/-- A read of the data port advances its address (R233). -/
theorem busRead_vaddr_of_dataPort {a : Addr} (h : portAt a.toNat 7) (s : State) :
    (busRead a s).2.ppu.vaddr = nextVaddr s.ppu := by
  obtain ⟨hge, hlt, hr⟩ := h
  rw [busRead_of_window hge hlt, hr, ppuRegRead_data_state]

section
variable (m : MemOp) (t : Timing) (s : State)

theorem storesAt_storeReg (r : Reg) (base : Nat) :
    StoresAt (ea m s) s.ppu.vaddr.toNat s (storeReg r m ⟨base, false⟩ s) := by
  rw [storeReg_eq, ← eaAddr_toNat]
  have hwrite := storesAt_busWrite (a := eaAddr m s) (s := costing base s) (fun _ => rfl) (getReg r s)
  exact hwrite.of_reads (readsOnly_charge base s) (keeps_charge base s)

/-- What is written to `EA` after it was read; a read of the data port has advanced its address. -/
theorem storesAt_modified (v : Byte) :
    StoresAt (ea m s) (nextVaddr s.ppu).toNat s
      (busWrite (locate m t s).1 v (busRead (locate m t s).1 (locate m t s).2).2) := by
  have haddr : (locate m t s).1.toNat = ea m s := by rw [locate_eq, eaAddr_toNat]
  rw [← haddr]
  refine (storesAt_busWrite (fun hport => ?_) v).of_reads (readsOnly_fetchM (.mem m) t s) (keeps_fetchM (.mem m) t s)
  change (busRead (locate m t s).1 (locate m t s).2).2.ppu.vaddr.toNat = _
  rw [busRead_vaddr_of_dataPort hport, locate_ppu]

end

/-! ## The whole frame -/

/-- Without a flag to write, the status byte is as before. -/
theorem WritesOnly.p_eq {sp : Bool} {s t : State} (h : WritesOnly 0x00 sp s t) : t.p = s.p := by
  simpa only [show (~~~0x00 : Byte) = BitVec.allOnes 8 from rfl, BitVec.and_allOnes] using h.p

/-- The frame of an instruction that writes `EA`: the flags it may write, the byte it stores, and no register. -/
structure StoringFrame (flags : Byte) (e d : Nat) (s t : State) : Prop
    extends WritesOnly flags false s t, StoresAt e d s t where
  a : t.a = s.a
  x : t.x = s.x
  y : t.y = s.y
  pc : t.pc = s.pc

section
variable (m : MemOp) (t : Timing) (s : State)

theorem storingFrame_storeReg (r : Reg) (base : Nat) :
    StoringFrame 0x00 (ea m s) s.ppu.vaddr.toNat s (storeReg r m ⟨base, false⟩ s) where
  toWritesOnly := writesOnly_storeReg r m _ s
  toStoresAt := storesAt_storeReg m s r base
  a := by simp [storeReg]
  x := by simp [storeReg]
  y := by simp [storeReg]
  pc := by simp [storeReg]

theorem storingFrame_modifyMem (f : Byte → Byte) :
    StoringFrame 0x82 (ea m s) (nextVaddr s.ppu).toNat s (modifyMem f m t s) where
  toWritesOnly := writesOnly_modifyMem f m t s
  toStoresAt := (storesAt_modified m t s _).setP _
  a := by simp [modifyMem, setNZ]
  x := by simp [modifyMem, setNZ]
  y := by simp [modifyMem, setNZ]
  pc := by simp [modifyMem, setNZ]

theorem storingFrame_shiftMem (f : Byte → Bool → Byte × Bool) :
    StoringFrame 0x83 (ea m s) (nextVaddr s.ppu).toNat s (shiftMem f m t s) where
  toWritesOnly := writesOnly_shiftMem f m t s
  toStoresAt := (storesAt_modified m t s _).setP _
  a := by simp [shiftMem]
  x := by simp [shiftMem]
  y := by simp [shiftMem]
  pc := by simp [shiftMem]

end

/-! ## Every instruction that writes `EA` -/

/-- INC and DEC, in every mode of the table (spec/43_inc_dec_shift.md R155, R158). -/
theorem exec_of_incDec {i : Instr} (s : State) (h : i.row.mnemonic ∈ [Mnemonic.inc, .dec]) :
    ∃ (m : MemOp) (f : Byte → Byte), memOf i = some m ∧ exec i s = .next (modifyMem f m (rowTiming i) s) := by
  cases i
  case incZp | incAbs | incZpx | incAbsx | decZp | decAbs | decZpx | decAbsx =>
    refine ⟨_, _, ?_, rfl⟩
    simp [memOf, Instr.row, Instr.operands, Nat.div_add_mod']
  all_goals simp [Instr.row] at h

/-- The shifts and rotates of memory, in every mode of the table (R161 to R164). -/
theorem exec_of_shift {i : Instr} (s : State) (h : i.row.mnemonic ∈ [Mnemonic.asl, .lsr, .rol, .ror])
    (hacc : i.row.mode ≠ .acc) : ∃ (m : MemOp) (f : Byte → Bool → Byte × Bool),
    memOf i = some m ∧ exec i s = .next (shiftMem f m (rowTiming i) s) := by
  cases i
  case aslZp | aslAbs | aslZpx | aslAbsx | lsrZp | lsrAbs | lsrZpx | lsrAbsx | rolZp | rolAbs | rolZpx | rolAbsx | rorZp |
      rorAbs | rorZpx | rorAbsx =>
    refine ⟨_, _, ?_, rfl⟩
    simp [memOf, Instr.row, Instr.operands, Nat.div_add_mod']
  case aslAcc | lsrAcc | rolAcc | rorAcc => exact absurd rfl hacc
  all_goals simp [Instr.row] at h

/-- The accumulator is no memory operand (R86). -/
theorem mode_ne_acc_of_memOf {i : Instr} {m : MemOp} (hm : memOf i = some m) : i.row.mode ≠ .acc := by
  intro hacc
  simp [memOf, hacc] at hm

/-- An instruction that writes `EA` has the frame of the shared operation it is: a store, or one of the two read-modify-writes. -/
theorem exec_storingFrame {i : Instr} {m : MemOp} (s : State) (hi : i.row.mnemonic ∈ writesEa) (hm : memOf i = some m) :
    NextSatisfies (StoringFrame (writtenFlags i.row.mnemonic) (ea m s) (dataAddr i s) s) (exec i s) := by
  have hkind : i.row.mnemonic ∈ [Mnemonic.sta, .stx, .sty] ∨ i.row.mnemonic ∈ [Mnemonic.inc, .dec] ∨
      i.row.mnemonic ∈ [Mnemonic.asl, .lsr, .rol, .ror] := by
    simpa [writesEa, or_assoc] using hi
  rcases hkind with hstore | hincDec | hshift
  · obtain ⟨m', r, hm', -, hexec⟩ := exec_of_store s hstore
    obtain rfl : m' = m := Option.some.inj (hm'.symm.trans hm)
    have hflags : ∀ n ∈ [Mnemonic.sta, .stx, .sty], writtenFlags n = 0x00 := by decide
    rw [hexec, hflags _ hstore, dataAddr, if_pos hstore]
    exact storingFrame_storeReg m' s r _
  · obtain ⟨m', f, hm', hexec⟩ := exec_of_incDec s hincDec
    obtain rfl : m' = m := Option.some.inj (hm'.symm.trans hm)
    have hmnemonic : ∀ n ∈ [Mnemonic.inc, .dec], writtenFlags n = 0x82 ∧ n ∉ [Mnemonic.sta, .stx, .sty] := by decide
    obtain ⟨hflags, hnotStore⟩ := hmnemonic _ hincDec
    rw [hexec, hflags, dataAddr, if_neg hnotStore, ← nextVaddr_toNat]
    exact storingFrame_modifyMem m' _ s f
  · obtain ⟨m', f, hm', hexec⟩ := exec_of_shift s hshift (mode_ne_acc_of_memOf hm)
    obtain rfl : m' = m := Option.some.inj (hm'.symm.trans hm)
    have hmnemonic : ∀ n ∈ [Mnemonic.asl, .lsr, .rol, .ror], writtenFlags n = 0x83 ∧ n ∉ [Mnemonic.sta, .stx, .sty] := by decide
    obtain ⟨hflags, hnotStore⟩ := hmnemonic _ hshift
    rw [hexec, hflags, dataAddr, if_neg hnotStore, ← nextVaddr_toNat]
    exact storingFrame_shiftMem m' _ s f

end Sys2Proof.Machine

namespace Sys2Proof.Proofs

open Sys2Proof.Machine Sys2Proof.Claims

/-- Settles O25: the frame is `exec_storingFrame`, its flags read off `writtenFlags`; the cartridge and FB no instruction touches. -/
theorem storingInstructionFrame : Obligations.StoringInstructionFrame := by
  intro i s m hi hm
  obtain ⟨t, ht, hkeeps⟩ := exec_next i s
  have hframe := exec_storingFrame s hi hm
  rw [ht] at hframe
  obtain ⟨hwrites, ⟨hram, hsram, hvramPal, hvram, hpal, hoam, hoamCell⟩, ha, hx, hy, hpc⟩ := hframe
  have hstore : ∀ n ∈ [Mnemonic.sta, .stx, .sty], writtenFlags n = 0x00 := by decide
  have hincDec : ∀ n ∈ [Mnemonic.inc, .dec], writtenFlags n &&& 0x7D = 0 := by decide
  have hall : ∀ n ∈ writesEa, writtenFlags n &&& 0x7C = 0 := by decide
  refine ⟨t, ht, ha, hx, hy, hwrites.sp rfl, hpc, hwrites.p_and (hall _ hi), fun h => ?_,
    fun h => hwrites.p_and (hincDec _ h), hram, hsram,
    ⟨hvramPal, hvram, hpal, fun hdma => ⟨hoam hdma, hoamCell hdma⟩⟩, hkeeps.cart, hkeeps.fb, hkeeps.frameReady⟩
  rw [hstore _ h] at hwrites
  exact hwrites.p_eq

end Sys2Proof.Proofs
end

section
/-! SUPPORT. Pushes and pulls in the statements' words (spec/41_stack.md R130 to R134): the RAM index of a stack cell, and the three
shared operations as state equations. -/

namespace Sys2Proof.Machine

open Sys2Proof.Claims

/-- `S` is a byte, so adding to it wraps inside the stack page (R134). -/
theorem stackIndex_eq (sp : Byte) (k : Nat) : stackIndex sp k = 0x100 + (sp + BitVec.ofNat 8 k).toNat := by
  simp [stackIndex]

/-- The cell a push writes. -/
theorem stackIndex_zero (sp : Byte) : stackIndex sp 0 = 0x100 + sp.toNat := by
  rw [stackIndex_eq, BitVec.add_zero]

/-- The cell a pull reads. -/
theorem stackIndex_one (sp : Byte) : stackIndex sp 1 = 0x100 + (sp + 1).toNat := stackIndex_eq sp 1

theorem pushByte_eq (v : Byte) (base : Nat) (s : State) :
    pushByte v base s = { costing base s with ram := s.ram.write (stackIndex s.sp 0) v, sp := s.sp - 1 } := by
  rw [pushByte, push_eq, stackIndex_zero]
  rfl

theorem pullAcc_eq (base : Nat) (s : State) :
    pullAcc base s = { costing base s with
      sp := s.sp + 1, a := s.ram.read (stackIndex s.sp 1), p := setNegZero (s.ram.read (stackIndex s.sp 1)) s.p } := by
  rw [pullAcc, pull_eq, setNZ, nz_eq_setNegZero, stackIndex_one]
  rfl

theorem pullStatus_eq (base : Nat) (s : State) :
    pullStatus base s = { costing base s with
      sp := s.sp + 1, p := (s.ram.read (stackIndex s.sp 1) &&& 0xCF) ||| 0x20 } := by
  rw [pullStatus, pull_eq, stackIndex_one]
  rfl

end Sys2Proof.Machine
end

section
/-! The statements on pushes and pulls. -/

namespace Sys2Proof.Proofs

open Sys2Proof.Machine

/-- Settles O27: PHA and PHP are the one push `pushByte`, of A and of P with bits 4 and 5 set. -/
theorem pushInstructions : Obligations.PushInstructions := fun s =>
  ⟨congrArg _ (pushByte_eq s.a 3 s), congrArg _ (pushByte_eq (pushedByInstruction s.p) 3 s)⟩

/-- Settles O28: PLA and PLP are the pulls `pullAcc` and `pullStatus`, which read the cell above S. -/
theorem pullInstructions : Obligations.PullInstructions := fun s =>
  ⟨congrArg _ (pullAcc_eq 4 s), congrArg _ (pullStatus_eq 4 s)⟩

end Sys2Proof.Proofs
end

section
/-! SUPPORT. Arithmetic, logic, compare and bit test in the statements' words (spec/42_arith_logic.md): the shared operation of
each mnemonic, the machine's flag formulas beside the numbers of R140 to R150, and what the D flag cannot change (R141). -/

namespace Sys2Proof.Machine

open Sys2Proof.Claims

/-! ## Which instructions they are -/

/-- The shared operation of each mnemonic of spec/42_arith_logic.md. -/
def arithLogicOp : Mnemonic → Option (Src → Timing → State → State)
  | .adc => some addWithCarry
  | .sbc => some subWithBorrow
  | .and => some (logic fun a m => a &&& m)
  | .ora => some (logic fun a m => a ||| m)
  | .eor => some (logic fun a m => a ^^^ m)
  | .cmp => some (compareReg .a)
  | .cpx => some (compareReg .x)
  | .cpy => some (compareReg .y)
  | .bit => some bitTest
  | _ => none

/-- In every mode of the table such an instruction is its mnemonic's operation on its source operand; `cases h` leaves the
rows of the mnemonics that have one. -/
theorem exec_of_arithLogicOp {i : Instr} {op : Src → Timing → State → State} (s : State)
    (h : arithLogicOp i.row.mnemonic = some op) : ∃ o : Src, srcOf i = some o ∧ exec i s = .next (op o (rowTiming i) s) := by
  cases i <;> cases h
  all_goals
    refine ⟨_, ?_, rfl⟩
    simp [srcOf, memOf, Instr.row, Instr.operands, Nat.div_add_mod']

/-- A compare's operation names the register that its mnemonic names (R147 to R149). -/
theorem arithLogicOp_of_compare {m : Mnemonic} (h : m ∈ [Mnemonic.cmp, .cpx, .cpy]) :
    ∃ r, regOf m = some r ∧ arithLogicOp m = some (compareReg r) := by
  simp only [List.mem_cons, List.not_mem_nil, or_false] at h
  rcases h with rfl | rfl | rfl <;> exact ⟨_, rfl, rfl⟩

/-! ## One flag -/

theorem withC_eq_setCarry (p : Byte) (c : Bool) : withC p c = setCarry c p := withBit_eq p 0x01 c

theorem withV_eq_setOverflow (p : Byte) (v : Bool) : withV p v = setOverflow v p := withBit_eq p 0x40 v

theorem bit01_flagC (p : Byte) : bit01 (flagC p) = carry p := by
  rw [flagC, getLsbD_eq_beq, carry, pow_zero, Nat.div_one]
  rcases Nat.mod_two_eq_zero_or_one p.toNat with h | h <;> rw [h] <;> rfl

/-! ## Addition (R140, R142) -/

theorem sum9_eq (a m p : Byte) : sum9 a m (flagC p) = a.toNat + m.toNat + carry p := by rw [sum9, bit01_flagC]

theorem and_signBit_ne_zero (v : Byte) : (v &&& 0x80 != 0) = v.msb := by
  have hbit : v &&& 0x80 = if v.msb then 0x80 else 0 := BitVec.and_twoPow v 7
  rw [hbit]
  cases v.msb <;> rfl

/-- The machine's overflow formula says that the signed sum, with any carry in, is out of range (R140). -/
theorem overflow_eq_outsideSigned (a m : Byte) {c : Nat} (hc : c < 2) :
    ((a ^^^ BitVec.ofNat 8 (a.toNat + m.toNat + c)) &&& (m ^^^ BitVec.ofNat 8 (a.toNat + m.toNat + c)) &&& 0x80 != 0) =
      outsideSigned (a.toInt + m.toInt + c) := by
  have ha := a.isLt
  have hm := m.isLt
  rw [and_signBit_ne_zero, BitVec.msb_and, BitVec.msb_xor, BitVec.msb_xor, outsideSigned, BitVec.toInt_eq_toNat_cond,
    BitVec.toInt_eq_toNat_cond, BitVec.msb_eq_decide, BitVec.msb_eq_decide, BitVec.msb_eq_decide, BitVec.toNat_ofNat,
    Bool.eq_iff_iff]
  simp only [Bool.and_eq_true, Bool.or_eq_true, bne_iff_ne, ne_eq, decide_eq_decide, decide_eq_true_eq]
  split_ifs <;> omega

theorem carry_lt (p : Byte) : carry p < 2 := Nat.mod_lt _ Nat.two_pos

theorem addToAcc_eq (m : Byte) (s : State) : addToAcc m s = addResult m s := by
  simp only [addToAcc, adcFlags, adcResult, sum9_eq, overflow_eq_outsideSigned _ _ (carry_lt s.p), withC_eq_setCarry,
    withV_eq_setOverflow, nz_eq_setNegZero]
  rfl

/-! ## Subtraction (R143): adding the one's complement -/

theorem complement_toNat (m : Byte) : (m ^^^ 0xFF).toNat = 255 - m.toNat :=
  (congrArg BitVec.toNat BitVec.xor_allOnes).trans BitVec.toNat_not

theorem complement_toInt (m : Byte) : (m ^^^ 0xFF).toInt = -1 - m.toInt := by
  have hm := m.isLt
  rw [BitVec.toInt_eq_toNat_cond, BitVec.toInt_eq_toNat_cond, complement_toNat]
  split_ifs <;> omega

theorem addResult_complement (m : Byte) (s : State) : addResult (m ^^^ 0xFF) s = subResult m s := by
  have hm := m.isLt
  have hresult : BitVec.ofNat 8 (s.a.toNat + (255 - m.toNat) + carry s.p) =
      BitVec.ofInt 8 ((s.a.toNat : Int) - m.toNat - (1 - carry s.p)) := by
    apply BitVec.eq_of_toNat_eq
    rw [BitVec.toNat_ofNat, BitVec.toNat_ofInt]
    omega
  have hcarry : 256 ≤ s.a.toNat + (255 - m.toNat) + carry s.p ↔
      0 ≤ (s.a.toNat : Int) - m.toNat - (1 - carry s.p) := by omega
  have hsigned : s.a.toInt + (-1 - m.toInt) + carry s.p = s.a.toInt - m.toInt - (1 - carry s.p) := by omega
  simp only [addResult, subResult, complement_toNat, complement_toInt, hresult, hcarry, hsigned]

/-! ## Compare and bit test (R147 to R150) -/

theorem compareFlags_eq (r m p : Byte) :
    compareFlags r m p =
      setNegZero (BitVec.ofInt 8 ((r.toNat : Int) - m.toNat)) (setCarry (decide (m.toNat ≤ r.toNat)) p) := by
  have hdiff : r - m = BitVec.ofInt 8 ((r.toNat : Int) - m.toNat) := by
    have hr := r.isLt
    have hm := m.isLt
    apply BitVec.eq_of_toNat_eq
    rw [BitVec.toNat_sub, BitVec.toNat_ofInt]
    omega
  rw [compareFlags, hdiff, withC_eq_setCarry, nz_eq_setNegZero]

theorem bitFlags_eq (a m p : Byte) :
    bitFlags a m p = (p &&& 0x3D) ||| (m &&& 0xC0) ||| (if a &&& m = 0 then 0x02 else 0x00) := by
  have hn : (if m.getLsbD 7 then 0x80 else 0) = m &&& 0x80 := (BitVec.and_twoPow m 7).symm
  have hv : (if m.getLsbD 6 then 0x40 else 0) = m &&& 0x40 := (BitVec.and_twoPow m 6).symm
  simp only [bitFlags, withV, withN, withZ, withBit_eq, hn, hv, beq_iff_eq]
  split_ifs
  all_goals
    ext k hk
    interval_cases k <;> simp

/-! ## The shared operations -/

section
variable (i : Instr) (o : Src) (s : State)

theorem operand_a : (operand i o s).2.a = s.a := by rw [← fetchM_eq_operand, fetchM_a]

theorem operand_p : (operand i o s).2.p = s.p := by rw [← fetchM_eq_operand, fetchM_p]

theorem getReg_operand (r : Reg) : getReg r (operand i o s).2 = getReg r s := by
  rw [← fetchM_eq_operand]
  cases r <;> simp [getReg]

theorem addWithCarry_eq : addWithCarry o (rowTiming i) s = addResult (operand i o s).1 (operand i o s).2 := by
  rw [addWithCarry, fetchM_eq_operand, addToAcc_eq]

theorem subWithBorrow_eq : subWithBorrow o (rowTiming i) s = subResult (operand i o s).1 (operand i o s).2 := by
  rw [subWithBorrow, fetchM_eq_operand, addToAcc_eq, addResult_complement]

theorem logic_eq (f : Byte → Byte → Byte) :
    logic f o (rowTiming i) s = { (operand i o s).2 with
      a := f s.a (operand i o s).1, p := setNegZero (f s.a (operand i o s).1) s.p } := by
  rw [logic, fetchM_eq_operand, setNZ, State.setA_p, operand_a, operand_p, nz_eq_setNegZero]
  rfl

theorem compareReg_eq (r : Reg) :
    compareReg r o (rowTiming i) s = { (operand i o s).2 with
      p := setNegZero (BitVec.ofInt 8 (((getReg r s).toNat : Int) - (operand i o s).1.toNat))
        (setCarry (decide ((operand i o s).1.toNat ≤ (getReg r s).toNat)) s.p) } := by
  rw [compareReg, fetchM_eq_operand, compareFlags_eq, getReg_operand, operand_p]
  rfl

theorem bitTest_eq :
    bitTest o (rowTiming i) s = { (operand i o s).2 with
      p := (s.p &&& 0x3D) ||| ((operand i o s).1 &&& 0xC0) |||
        (if s.a &&& (operand i o s).1 = 0 then 0x02 else 0x00) } := by
  rw [bitTest, fetchM_eq_operand, bitFlags_eq, operand_a, operand_p]
  rfl

end

/-! ## The D flag (R141) -/

/-- The state with D flipped. -/
def flipDecimal (s : State) : State := { s with p := s.p ^^^ 0x08 }

/-- The data port neither consults nor changes the status byte. -/
theorem readData_setP (q : Byte) (s : State) : readData (s.setP q) = ((readData s).1, (readData s).2.setP q) := by
  unfold readData
  rw [State.setP_ppu]
  dsimp only
  split_ifs <;> rfl

/-- Nor does any register of the window. -/
theorem ppuRegRead_setP (r : Nat) (q : Byte) (s : State) :
    ppuRegRead r (s.setP q) = ((ppuRegRead r s).1, (ppuRegRead r s).2.setP q) := by
  unfold ppuRegRead
  split_ifs
  · rfl
  · rfl
  · exact readData_setP q s
  · rfl

theorem readSram_setP (a : Addr) (q : Byte) (s : State) :
    readSram a (s.setP q) = ((readSram a s).1, (readSram a s).2.setP q) := by
  rw [readSram, readSram, State.setP_cart]
  split_ifs <;> rfl

/-- Nor does any bus read. -/
theorem busRead_setP (a : Addr) (q : Byte) (s : State) :
    busRead a (s.setP q) = ((busRead a s).1, (busRead a s).2.setP q) := by
  unfold busRead
  split_ifs
  any_goals rfl
  · exact ppuRegRead_setP _ q s
  · exact readSram_setP a q s

/-- No mode's address or penalty depends on the status byte. -/
theorem locate_setP (m : MemOp) (t : Timing) (q : Byte) (s : State) :
    locate m t (s.setP q) = ((locate m t s).1, (locate m t s).2.setP q) := by
  rw [locate_eq, locate_eq]
  cases m <;> rfl

theorem fetchM_setP (o : Src) (t : Timing) (q : Byte) (s : State) :
    fetchM o t (s.setP q) = ((fetchM o t s).1, (fetchM o t s).2.setP q) := by
  cases o with
  | imm b => rfl
  | mem m => simp only [fetchM, locate_setP, busRead_setP]

/-- Writing bits and flipping others commute. -/
theorem withBit_xor {mask d : Byte} (h : mask &&& d = 0) (p : Byte) (v : Bool) :
    withBit (p ^^^ d) mask v = withBit p mask v ^^^ d := by
  ext k hk
  have hbit : (mask[k] && d[k]) = false := by simpa using congrArg (fun b : Byte => b[k]) h
  cases hd : d[k] with
  | false => cases v <;> simp [withBit, hd]
  | true =>
    have hmask : mask[k] = false := by simpa [hd] using hbit
    cases v <;> simp [withBit, hd, hmask]

theorem flagC_flipDecimal (p : Byte) : flagC (p ^^^ 0x08) = flagC p := by simp [flagC]

/-- ADC's flags take nothing from D and leave it alone. -/
theorem adcFlags_flipDecimal (a m p : Byte) : adcFlags a m (p ^^^ 0x08) = adcFlags a m p ^^^ 0x08 := by
  simp only [adcFlags, flagC_flipDecimal, nz, withN, withZ, withV, withC]
  rw [withBit_xor, withBit_xor, withBit_xor, withBit_xor] <;> decide

theorem addToAcc_flipDecimal (m : Byte) (s : State) : addToAcc m (flipDecimal s) = flipDecimal (addToAcc m s) := by
  simp only [addToAcc, flipDecimal, adcFlags_flipDecimal, flagC_flipDecimal]
  rfl

theorem fetchM_flipDecimal (o : Src) (t : Timing) (s : State) :
    fetchM o t (flipDecimal s) = ((fetchM o t s).1, flipDecimal (fetchM o t s).2) := by
  rw [flipDecimal, flipDecimal, fetchM_p]
  exact fetchM_setP o t _ s

theorem addWithCarry_flipDecimal (o : Src) (t : Timing) (s : State) :
    addWithCarry o t (flipDecimal s) = flipDecimal (addWithCarry o t s) := by
  simp only [addWithCarry, fetchM_flipDecimal, addToAcc_flipDecimal]

theorem subWithBorrow_flipDecimal (o : Src) (t : Timing) (s : State) :
    subWithBorrow o t (flipDecimal s) = flipDecimal (subWithBorrow o t s) := by
  simp only [subWithBorrow, fetchM_flipDecimal, addToAcc_flipDecimal]

/-- The operations of ADC and SBC give the flipped result in the flipped state. -/
theorem arithLogicOp_flipDecimal {m : Mnemonic} (h : m = .adc ∨ m = .sbc) : ∃ op, arithLogicOp m = some op ∧
    ∀ (o : Src) (t : Timing) (s : State), op o t (flipDecimal s) = flipDecimal (op o t s) := by
  rcases h with rfl | rfl
  · exact ⟨_, rfl, addWithCarry_flipDecimal⟩
  · exact ⟨_, rfl, subWithBorrow_flipDecimal⟩

end Sys2Proof.Machine
end

section
/-! The statements on arithmetic, logic, compare and bit test. -/

namespace Sys2Proof.Proofs

open Sys2Proof.Machine Sys2Proof.Claims

/-- Settles O29. -/
theorem adcResult : Obligations.AdcResult := by
  intro i s h
  obtain ⟨o, ho, hexec⟩ := exec_of_arithLogicOp s (congrArg arithLogicOp h)
  exact ⟨o, ho, by rw [hexec, addWithCarry_eq]⟩

/-- Settles O30: SBC adds the one's complement. -/
theorem sbcResult : Obligations.SbcResult := by
  intro i s h
  obtain ⟨o, ho, hexec⟩ := exec_of_arithLogicOp s (congrArg arithLogicOp h)
  exact ⟨o, ho, by rw [hexec, subWithBorrow_eq]⟩

/-- Settles O31: fetching the operand does not consult D, and ADC's flag formula neither reads nor writes it. -/
theorem decimalFlagIgnored : Obligations.DecimalFlagIgnored := by
  intro i s h
  obtain ⟨op, hop, hflip⟩ := arithLogicOp_flipDecimal h
  obtain ⟨o, ho, hexec⟩ := exec_of_arithLogicOp s hop
  obtain ⟨o', ho', hexec'⟩ := exec_of_arithLogicOp (flipDecimal s) hop
  obtain rfl : o' = o := Option.some.inj (ho'.symm.trans ho)
  exact ⟨_, hexec, hexec'.trans (congrArg _ (hflip _ _ _))⟩

/-- Settles O32: the three operations of `logic`, each with its rule for one bit. -/
theorem logicResult : Obligations.LogicResult := by
  intro i s h
  simp only [List.mem_cons, List.not_mem_nil, or_false] at h
  rcases h with h | h | h
  all_goals
    obtain ⟨o, ho, hexec⟩ := exec_of_arithLogicOp s (congrArg arithLogicOp h)
    rw [logic_eq] at hexec
    refine ⟨o, _, ho, fun k _ => ?_, hexec⟩
    rw [h]
  · exact BitVec.getLsbD_and
  · exact BitVec.getLsbD_or
  · exact BitVec.getLsbD_xor

/-- Settles O33: a compare is `compareReg` of the register its mnemonic names. -/
theorem compareResult : Obligations.CompareResult := by
  intro i s h
  obtain ⟨r, hr, hcompare⟩ := arithLogicOp_of_compare h
  obtain ⟨o, ho, hexec⟩ := exec_of_arithLogicOp s hcompare
  exact ⟨o, r, ho, hr, by rw [hexec, compareReg_eq]⟩

/-- Settles O34. -/
theorem bitResult : Obligations.BitResult := by
  intro i s h
  obtain ⟨o, ho, hexec⟩ := exec_of_arithLogicOp s (congrArg arithLogicOp h)
  exact ⟨o, ho, by rw [hexec, bitTest_eq]⟩

end Sys2Proof.Proofs
end

section
/-! SUPPORT. Increment, decrement, shift and rotate in the statements' words (spec/43_inc_dec_shift.md): what each mnemonic does to a
byte, the machine's bit operations beside the numbers of R155 to R164, and the shared operations as state equations. -/

namespace Sys2Proof.Machine

open Sys2Proof.Claims

/-! ## Which instructions they are -/

/-- What INC and DEC do to the byte at `EA` (R155, R158). -/
def stepByte : Mnemonic → Option (Byte → Byte)
  | .inc => some fun v => v + 1
  | .dec => some fun v => v - 1
  | _ => none

/-- What a shift or rotate does to its byte and the old carry (R161 to R164). -/
def shiftByte : Mnemonic → Option (Byte → Bool → Byte × Bool)
  | .asl => some aslByte
  | .lsr => some lsrByte
  | .rol => some rolByte
  | .ror => some rorByte
  | _ => none

/-- INC and DEC in every mode of the table, with no page-cross penalty (R165); `cases h` leaves their rows. -/
theorem exec_of_stepByte {i : Instr} {f : Byte → Byte} (s : State) (h : stepByte i.row.mnemonic = some f) :
    ∃ m : MemOp, memOf i = some m ∧ exec i s = .next (modifyMem f m ⟨i.row.base, false⟩ s) := by
  cases i <;> cases h
  all_goals
    refine ⟨_, ?_, rfl⟩
    simp [memOf, Instr.row, Instr.operands, Nat.div_add_mod']

/-- The shifts of memory in every mode of the table, with no page-cross penalty (R165); `cases h` leaves the shifts' rows. -/
theorem exec_of_shiftByte {i : Instr} {f : Byte → Bool → Byte × Bool} (s : State)
    (h : shiftByte i.row.mnemonic = some f) (hacc : i.row.mode ≠ .acc) :
    ∃ m : MemOp, memOf i = some m ∧ exec i s = .next (shiftMem f m ⟨i.row.base, false⟩ s) := by
  cases i <;> cases h
  case aslAcc | lsrAcc | rolAcc | rorAcc => exact absurd rfl hacc
  all_goals
    refine ⟨_, ?_, rfl⟩
    simp [memOf, Instr.row, Instr.operands, Nat.div_add_mod']

/-- The accumulator mode is the shifts' alone (R86); `cases h` leaves its four rows. -/
theorem exec_of_mode_acc {i : Instr} (s : State) (h : i.row.mode = .acc) :
    ∃ f, shiftByte i.row.mnemonic = some f ∧ exec i s = .next (shiftAcc f 2 s) := by
  cases i <;> cases h
  all_goals exact ⟨_, rfl, rfl⟩

/-! ## The bytes -/

theorem add_one_eq_ofNat (v : Byte) : v + 1 = BitVec.ofNat 8 (v.toNat + 1) :=
  BitVec.eq_of_toNat_eq (by rw [BitVec.toNat_add, BitVec.toNat_ofNat]; rfl)

/-- Subtracting 1 is adding 255 modulo 256. -/
theorem sub_one_eq_ofNat (v : Byte) : v - 1 = BitVec.ofNat 8 (v.toNat + 255) :=
  BitVec.eq_of_toNat_eq (by rw [BitVec.toNat_sub, BitVec.toNat_ofNat, Nat.add_comm]; rfl)

/-- INC and DEC in numbers (R155, R158). -/
theorem stepByte_eq {m : Mnemonic} (h : m = .inc ∨ m = .dec) :
    stepByte m = some fun v => BitVec.ofNat 8 (v.toNat + if m = .inc then 1 else 255) := by
  rcases h with rfl | rfl
  · exact congrArg some (funext add_one_eq_ofNat)
  · exact congrArg some (funext sub_one_eq_ofNat)

theorem getLsbD_seven (v : Byte) : v.getLsbD 7 = decide (128 ≤ v.toNat) := BitVec.msb_eq_decide v

theorem bit01_lt (c : Bool) : bit01 c < 2 := by cases c <;> decide

/-- ROL in numbers: the carry enters the bit that the shift left frees (R163). -/
theorem rolByte_eq (v : Byte) (c : Bool) :
    rolByte v c = (BitVec.ofNat 8 (2 * v.toNat + bit01 c), decide (128 ≤ v.toNat)) := by
  have hor : 2 * v.toNat + bit01 c = v.toNat <<< 1 ||| bit01 c := by
    rw [← Nat.shiftLeft_add_eq_or_of_lt (bit01_lt c), Nat.shiftLeft_eq, Nat.mul_comm, pow_one]
  refine Prod.ext (BitVec.eq_of_toNat_eq ?_) (getLsbD_seven v)
  simp only [rolByte, BitVec.toNat_or, BitVec.toNat_shiftLeft, BitVec.toNat_ofNat, hor, Nat.or_mod_two_pow]

/-- ROR in numbers: the carry enters the bit that the shift right frees (R164). -/
theorem rorByte_eq (v : Byte) (c : Bool) :
    rorByte v c = (BitVec.ofNat 8 (v.toNat / 2 + 128 * bit01 c), v.toNat % 2 == 1) := by
  have hc := bit01_lt c
  have hor : v.toNat / 2 + 128 * bit01 c = v.toNat >>> 1 ||| bit01 c <<< 7 := by
    rw [Nat.or_comm, ← Nat.shiftLeft_add_eq_or_of_lt (by omega), Nat.shiftLeft_eq, Nat.shiftRight_eq_div_pow, pow_one,
      Nat.add_comm, Nat.mul_comm]
  have hbit : v.getLsbD 0 = (v.toNat % 2 == 1) := by rw [getLsbD_eq_beq, pow_zero, Nat.div_one]
  refine Prod.ext (BitVec.eq_of_toNat_eq ?_) hbit
  simp only [rorByte, BitVec.toNat_or, BitVec.toNat_ushiftRight, BitVec.toNat_shiftLeft, BitVec.toNat_ofNat, hor,
    Nat.or_mod_two_pow]
  rw [Nat.mod_eq_of_lt (by omega : bit01 c < 2 ^ 8), Nat.mod_eq_of_lt (by omega : v.toNat >>> 1 < 2 ^ 8)]

/-- ASL is ROL with no carry in (R161, R163). -/
theorem aslByte_eq (v : Byte) (c : Bool) : aslByte v c = rolByte v false := by
  rw [aslByte, rolByte]
  exact congrArg (·, _) BitVec.or_zero.symm

/-- LSR is ROR with no carry in (R162, R164). -/
theorem lsrByte_eq (v : Byte) (c : Bool) : lsrByte v c = rorByte v false := by
  rw [lsrByte, rorByte]
  exact congrArg (·, _) BitVec.or_zero.symm

/-- The machine's shifts are the statements'. -/
theorem shifted_eq {m : Mnemonic} {f : Byte → Bool → Byte × Bool} (h : shiftByte m = some f) (v p : Byte) :
    shifted m v (carry p) = some (f v (flagC p)) := by
  cases m <;> cases h
  case asl => rw [aslByte_eq, rolByte_eq]; rfl
  case lsr => rw [lsrByte_eq, rorByte_eq]; rfl
  case rol => rw [rolByte_eq, bit01_flagC]; rfl
  case ror => rw [rorByte_eq, bit01_flagC]; rfl

theorem shiftFlags_eq (r : Byte × Bool) (p : Byte) : shiftFlags r p = setNegZero r.1 (setCarry r.2 p) := by
  rw [shiftFlags, withC_eq_setCarry, nz_eq_setNegZero]

theorem exists_shiftByte_of_mem {m : Mnemonic} (h : m ∈ [Mnemonic.asl, .lsr, .rol, .ror]) : ∃ f, shiftByte m = some f := by
  simp only [List.mem_cons, List.not_mem_nil, or_false] at h
  rcases h with rfl | rfl | rfl | rfl <;> exact ⟨_, rfl⟩

/-! ## The shared operations -/

theorem modifyReg_eq (f : Byte → Byte) (r : Reg) (base : Nat) (s : State) :
    modifyReg f r base s =
      setReg r (f (getReg r s)) { costing base s with p := setNegZero (f (getReg r s)) s.p } := by
  rw [modifyReg, setNZ_setReg]
  rfl

/-- One read and one write of `EA`, then N and Z (R165). -/
theorem modifyMem_eq (f : Byte → Byte) (m : MemOp) (base : Nat) (s : State) :
    modifyMem f m ⟨base, false⟩ s =
      let v := busRead (eaAddr m s) (costing base s)
      { busWrite (eaAddr m s) (f v.1) v.2 with p := setNegZero (f v.1) s.p } := by
  simp only [modifyMem, setNZ, busWrite_p, busRead_p, locate_eq, nz_eq_setNegZero]
  rfl

theorem shiftAcc_eq (f : Byte → Bool → Byte × Bool) (base : Nat) (s : State) :
    shiftAcc f base s =
      let r := f s.a (flagC s.p)
      { costing base s with a := r.1, p := setNegZero r.1 (setCarry r.2 s.p) } := by
  rw [shiftAcc, shiftFlags_eq]
  rfl

/-- One read and one write of `EA`, then N, Z and C (R165). -/
theorem shiftMem_eq (f : Byte → Bool → Byte × Bool) (m : MemOp) (base : Nat) (s : State) :
    shiftMem f m ⟨base, false⟩ s =
      let v := busRead (eaAddr m s) (costing base s)
      let r := f v.1 (flagC s.p)
      { busWrite (eaAddr m s) r.1 v.2 with p := setNegZero r.1 (setCarry r.2 s.p) } := by
  simp only [shiftMem, busWrite_p, busRead_p, locate_eq, shiftFlags_eq]
  rfl

end Sys2Proof.Machine
end

section
/-! The statements on increment, decrement, shift and rotate. -/

namespace Sys2Proof.Proofs

open Sys2Proof.Machine Sys2Proof.Claims

/-- Settles O35: INC and DEC are `modifyMem` of adding 1 or 255. -/
theorem incDecMemory : Obligations.IncDecMemory := by
  intro i s h
  obtain ⟨m, hm, hexec⟩ := exec_of_stepByte s (stepByte_eq h)
  exact ⟨m, hm, by rw [hexec, modifyMem_eq]⟩

/-- Settles O37: a shift of the accumulator is `shiftAcc` of its mnemonic's bit operation. -/
theorem shiftAccumulator : Obligations.ShiftAccumulator := by
  intro i s h
  obtain ⟨f, hf, hexec⟩ := exec_of_mode_acc s h
  exact ⟨_, shifted_eq hf s.a s.p, by rw [hexec, shiftAcc_eq]⟩

/-- Settles O38: a shift of memory is `shiftMem` of its mnemonic's bit operation. -/
theorem shiftMemory : Obligations.ShiftMemory := by
  intro i s h hacc
  obtain ⟨f, hf⟩ := exists_shiftByte_of_mem h
  obtain ⟨m, hm, hexec⟩ := exec_of_shiftByte s hf hacc
  exact ⟨m, _, hm, shifted_eq hf _ s.p, by rw [hexec, shiftMem_eq]⟩

/-- Settles O36: the four instructions are `modifyReg`, whose byte addition wraps. -/
theorem incDecRegister : Obligations.IncDecRegister := by
  intro s
  rw [← add_one_eq_ofNat, ← add_one_eq_ofNat, ← sub_one_eq_ofNat, ← sub_one_eq_ofNat]
  exact ⟨congrArg _ (modifyReg_eq _ .x 2 s), congrArg _ (modifyReg_eq _ .y 2 s), congrArg _ (modifyReg_eq _ .x 2 s),
    congrArg _ (modifyReg_eq _ .y 2 s)⟩

end Sys2Proof.Proofs
end

section
/-! SUPPORT. Control transfer in the statements' words (spec/44_control.md): the bytes of a word, the stack cells below and above
S, the shared operations as state equations, and what a status byte pushed and pulled again is. -/

namespace Sys2Proof.Machine

open Sys2Proof.Claims

/-! ## The bytes of a word -/

/-- The machine's high byte is the statements'. -/
theorem hi_eq_high (w : Addr) : hi w = high w := by
  have := w.isLt
  refine BitVec.eq_of_toNat_eq ?_
  rw [hi_toNat, high, BitVec.toNat_ofNat]
  omega

/-- The machine's low byte is the statements'. -/
theorem lo_eq_low (w : Addr) : lo w = low w := by
  refine BitVec.eq_of_toNat_eq ?_
  rw [lo_toNat, low, BitVec.toNat_ofNat]
  omega

/-- A word pushed as two bytes is the word pulled. -/
theorem join_high_low (w : Addr) : join (high w) (low w) = w := by
  rw [join_eq_word, ← hi_eq_high, ← lo_eq_low, word_hi_lo]

/-- The address after `p` in its page, where the machine reads a pointer's second byte (R94). -/
theorem word_hi_lo_add_one (p : Addr) :
    word (hi p) (lo p + 1) = BitVec.ofNat 16 (p.toNat / 256 * 256 + (p.toNat + 1) % 256) := by
  have hlo : (lo p + 1).toNat = (p.toNat + 1) % 256 := by
    rw [BitVec.toNat_add, lo_toNat]
    exact Nat.mod_add_mod _ _ _
  have := p.isLt
  refine BitVec.eq_of_toNat_eq ?_
  rw [word_toNat, hi_toNat, hlo, BitVec.toNat_ofNat]
  omega

/-! ## The stack cells -/

/-- The cells seen from an S that is `n` lower: the page wraps (R134). -/
theorem stackIndex_sub (sp n : Byte) (k : Nat) :
    stackIndex (sp - n) k = stackIndex sp ((256 - n.toNat + k) % 256) := by
  rw [stackIndex, stackIndex, BitVec.toNat_sub]
  omega

/-- The cell a push writes after `n` pushes. -/
theorem stackCell_sub (sp n : Byte) : 0x100 + (sp - n).toNat = stackIndex sp ((256 - n.toNat) % 256) := by
  rw [← stackIndex_zero, stackIndex_sub, Nat.add_zero]

/-- The cell the `n`th pull reads. -/
theorem stackCell_add (sp n : Byte) : 0x100 + (sp + n).toNat = stackIndex sp n.toNat := by
  rw [stackIndex_eq, BitVec.ofNat_toNat, BitVec.setWidth_eq]

/-- The 256 cells of the stack page are distinct. -/
theorem stackIndex_inj (sp : Byte) (j k : Nat) : stackIndex sp j = stackIndex sp k ↔ j % 256 = k % 256 := by
  rw [stackIndex, stackIndex]
  omega

/-! ## The status byte -/

/-- The status bits BRK pushes come back as they were, where bits 5 and 4 are the interrupted code's 1 and 0 (R179, R180). -/
theorem pulledStatus_pushedByInstruction {p : Byte} (h : p &&& 0x30 = 0x20) : pulledStatus (pushedByInstruction p) = p := by
  have hpull : (p ||| 0x30) &&& 0xCF = p &&& 0xCF := by
    rw [BitVec.and_comm, BitVec.and_or_distrib_left, BitVec.and_comm]
    exact BitVec.or_zero
  calc (p ||| 0x30) &&& 0xCF ||| 0x20
      = p &&& 0xCF ||| p &&& 0x30 := by rw [hpull, h]
    _ = p &&& (0xCF ||| 0x30) := (BitVec.and_or_distrib_left ..).symm
    _ = p := BitVec.and_allOnes

/-! ## The shared operations -/

/-- A jump through a pointer (R176). -/
theorem jumpIndirect_eq (p : Addr) (base : Nat) (s : State) :
    jumpIndirect p base s =
      let l := busRead p (costing base s)
      let h := busRead (BitVec.ofNat 16 (p.toNat / 256 * 256 + (p.toNat + 1) % 256)) l.2
      { h.2 with pc := join h.1 l.1 } := by
  simp only [jumpIndirect, busReadPw16, busReadPair, word_hi_lo_add_one, join_eq_word]
  rfl

/-- A call pushes the address before pc and jumps (R177). -/
theorem callSubroutine_eq (a : Addr) (base : Nat) (s : State) :
    callSubroutine a base s = { costing base s with
      ram := (s.ram.write (stackIndex s.sp 0) (high (s.pc - 1))).write (stackIndex s.sp 255) (low (s.pc - 1))
      sp := s.sp - 2
      pc := a } := by
  rw [callSubroutine, pushWord_eq, stackCell_sub, ← stackIndex_zero, hi_eq_high, lo_eq_low]
  rfl

/-- A return from a call pulls an address and adds 1 (R178). -/
theorem returnFromSubroutine_eq (base : Nat) (s : State) :
    returnFromSubroutine base s = { costing base s with
      sp := s.sp + 2
      pc := join (s.ram.read (stackIndex s.sp 2)) (s.ram.read (stackIndex s.sp 1)) + 1 } := by
  rw [returnFromSubroutine, pullWord_eq, stackCell_add, stackCell_add, ← join_eq_word]
  rfl

/-- What NMI entry and BRK share, in the statements' words (R180, R286). -/
theorem enterException_state (ret : Addr) (status : Byte) {vector : Addr} (h : 0x8000 ≤ vector.toNat)
    (h' : 0x8000 ≤ (vector + 1).toNat) (s : State) :
    enterException ret status vector s = { s with
      ram := ((s.ram.write (stackIndex s.sp 0) (high ret)).write (stackIndex s.sp 255) (low ret)).write
        (stackIndex s.sp 254) status
      sp := s.sp - 3
      p := s.p ||| 0x04
      pc := join (readPrg (vector + 1) s.cart) (readPrg vector s.cart) } := by
  rw [enterException_eq ret status h h', stackCell_sub, stackCell_sub, ← stackIndex_zero, hi_eq_high, lo_eq_low,
    ← join_eq_word]
  rfl

/-- A return from an exception pulls P and pc (R179). -/
theorem returnFromException_state (s : State) :
    returnFromException s = { s with
      p := (s.ram.read (stackIndex s.sp 1) &&& 0xCF) ||| 0x20
      sp := s.sp + 3
      pc := join (s.ram.read (stackIndex s.sp 3)) (s.ram.read (stackIndex s.sp 2)) } := by
  rw [returnFromException_eq, stackCell_add, stackCell_add, stackCell_add, ← join_eq_word]
  rfl

/-- A branch moves pc where it is taken, and costs its penalty (R181). -/
theorem branch_eq (taken : Bool) (off : Byte) (base : Nat) (s : State) :
    branch taken off base s = { s with
      pc := if taken then target off s.pc else s.pc
      pending := base - 1 + branchPenalty taken off s } := by
  rw [← branch_pending, ← branchTarget_eq]
  cases taken <;> rfl

/-- The relative mode is the branches' alone, each with its condition (R182 to R189); `cases h` leaves their eight rows. -/
theorem exec_of_mode_rel {i : Instr} (s : State) (h : i.row.mode = .rel) : ∃ (taken : Bool) (off : Byte),
    branchTaken i.row.mnemonic s.p = some taken ∧ i.operands = [off] ∧ exec i s = .next (branch taken off 2 s) := by
  cases i <;> cases h
  all_goals
    refine ⟨_, _, ?_, rfl, rfl⟩
    simp only [Instr.row, branchTaken, flagN, flagV, flagC, flagZ, getLsbD_eq_beq, not_mod_two_beq_one, Nat.reducePow,
      Nat.div_one]

end Sys2Proof.Machine
end

section
/-! The statements on control transfer. -/

namespace Sys2Proof.Proofs

open Sys2Proof.Machine Sys2Proof.Claims

/-- Settles O39: JMP is `jump` of its operand, or `jumpIndirect`. -/
theorem jumpResult : Obligations.JumpResult := fun s a => ⟨rfl, congrArg _ (jumpIndirect_eq a 5 s)⟩

/-- Settles O40: JSR and RTS are one pushed and one pulled word. -/
theorem jsrAndRtsEffect : Obligations.JsrAndRtsEffect := fun s a =>
  ⟨congrArg _ (callSubroutine_eq a 6 s), congrArg _ (returnFromSubroutine_eq 6 s)⟩

/-- Settles O41: RTI is `returnFromException` at its cost. -/
theorem rtiEffect : Obligations.RtiEffect := fun s => congrArg _ (returnFromException_state (charge 6 s))

/-- Settles O42: BRK enters an exception with the address after the skipped byte, through a vector in the PRG window. -/
theorem brkEffect : Obligations.BrkEffect := fun s =>
  congrArg _ (enterException_state (s.pc + 1) (pushedByInstruction s.p) (by decide) (by decide) (charge 7 s))

/-- Settles O43: a branch is `branch` of its condition, whose base cost is 2. -/
theorem branchResult : Obligations.BranchResult := by
  intro i s h
  obtain ⟨taken, off, htaken, hoff, hexec⟩ := exec_of_mode_rel s h
  refine ⟨taken, off, htaken, hoff, ?_⟩
  have hcost : 2 - 1 + branchPenalty taken off s =
      if taken then (if (target off s.pc).toNat / 256 = s.pc.toNat / 256 then 2 else 3) else 1 := by
    rw [branchPenalty]
    split_ifs <;> rfl
  rw [hexec, branch_eq, hcost]

/-- Settles O45: RTS reads the two cells JSR wrote, and S, lowered by 2, is raised by 2. -/
theorem jsrThenRtsReturns : Obligations.JsrThenRtsReturns := by
  intro s a
  refine ⟨_, _, (jsrAndRtsEffect s a).1, (jsrAndRtsEffect _ a).2, ?state, fun k h0 h255 => ?cell⟩
  case state => simp [costing, stackIndex_sub, Memory.read_write, stackIndex_inj, join_high_low]
  case cell => exact (Memory.read_write_other _ _ h255).trans (Memory.read_write_other _ _ h0)

/-- Settles O46: RTI reads the three cells BRK wrote, and the status bits pushed come back as they were. -/
theorem brkThenRtiReturns : Obligations.BrkThenRtiReturns := by
  intro s hp
  have hstatus : (s.p ||| 0x30) &&& 0xCF ||| 0x20 = s.p := pulledStatus_pushedByInstruction hp
  refine ⟨_, _, brkEffect s, rtiEffect _, ?_⟩
  simpa [costing, stackIndex_sub, Memory.read_write, stackIndex_inj, join_high_low] using hstatus

end Sys2Proof.Proofs
end

section
/-! The statement on the flag instructions and NOP (spec/45_flags_nop.md). -/

namespace Sys2Proof.Proofs

open Sys2Proof.Machine Sys2Proof.Claims

/-- Settles O44: `cases h` leaves the eight rows with a flag effect. A clearing instruction ands P with the complement of its
flag's mask, which is the statement's constant; a setting one ors P with the mask; NOP keeps the P it had. -/
theorem flagInstructionResult : Obligations.FlagInstructionResult := by
  intro i s p h
  cases i <;> cases h
  case clc | cli | clv | cld => rfl
  case sec | sei | sed => rfl
  case nop => rfl

end Sys2Proof.Proofs
end

section
/-! The statements on a tick of the PPU's phase and on a tick of the CPU's (spec/60_exceptions.md R283, R296). -/

namespace Sys2Proof.Machine

theorem step_of_ppuPhase {s : State} (hrunning : s.halted = none) (hphase : s.master % 4 ≠ 0) :
    step s = .next (countTick (ppuTick s)) := by
  simp only [step, tick, hrunning, if_neg hphase]

/-- A forwarded edge sets the latch, and nothing in a PPU tick clears it (R283). -/
theorem ppuTick_nmiLatch (s : State) :
    (ppuTick s).nmiLatch = (s.nmiLatch || ((ppuStep s).1 && forwardsEdge s)) := by
  obtain ⟨f, r, v, c, l, g, p, hstep⟩ := ppuStep_state s
  have hlatch : (ppuStep s).2.nmiLatch = s.nmiLatch := by rw [hstep]; rfl
  have hforwards : forwardsEdge (ppuStep s).2 = forwardsEdge s := by rw [hstep]; rfl
  simp only [ppuTick, hforwards]
  cases hedge : (ppuStep s).1 && forwardsEdge s
  · simpa using hlatch
  · simp

/-- The master tick after a CPU step that keeps what instructions keep. -/
theorem countTick_of_keeps {s t : State} (h : Keeps s t) :
    (countTick t).ppu.cycle = s.ppu.cycle ∧ (countTick t).ppu.scanline = s.ppu.scanline ∧
      (countTick t).ppu.stage = s.ppu.stage ∧ (countTick t).ppu.parity = s.ppu.parity ∧ (countTick t).fb = s.fb ∧
      (countTick t).frameReady = s.frameReady ∧ (countTick t).master = s.master + 1 :=
  ⟨h.cycle, h.scanline, h.stage, h.parity, h.fb, h.frameReady, congrArg (· + 1) h.master⟩

end Sys2Proof.Machine

namespace Sys2Proof.Proofs

open Sys2Proof.Machine

/-- Settles O10: the tick is a PPU cycle that may set the NMI latch. -/
theorem ppuTickFrameAndNmiRouting : Obligations.PpuTickFrameAndNmiRouting := by
  intro s hrunning hphase
  obtain ⟨l, hl⟩ := ppuTick_eq s
  obtain ⟨f, r, v, c, n, g, p, hstep⟩ := ppuStep_state s
  refine ⟨_, step_of_ppuPhase hrunning hphase, ?frame, ?registers, ?latch⟩
  case frame =>
    rw [hl, hstep]
    rfl
  case registers =>
    rw [hl, hstep]
    rfl
  case latch =>
    change (ppuTick s).nmiLatch = _
    rw [ppuTick_nmiLatch, ppuStep_edge, ← Bool.and_assoc]
    rfl

/-- Settles O11: on the CPU's phase the step is one of the CPU's four, and what each does up to the count of the tick keeps what
instructions keep. -/
theorem cpuTickLeavesPpuPositionAndFrame : Obligations.CpuTickLeavesPpuPositionAndFrame := by
  intro s t hphase h
  obtain ⟨-, hcase⟩ := step_cases h
  cases hcase with
  | idle => exact (countTick_of_keeps (keeps_setPending (s.pending - 1) (counted s)) :)
  | nmi => exact (countTick_of_keeps (keeps_enterException s.pc (pushedByNmi s.p) nmiVector ((counted s).setNmiLatch false)) :)
  | illegal => exact (countTick_of_keeps (keeps_busRead s.pc (counted s)) :)
  | instr hop hkeeps hp hexec => exact (countTick_of_keeps (hkeeps.trans (exec_keeps_next hexec)) :)
  | ppu hmaster => exact absurd hphase hmaster

end Sys2Proof.Proofs
end

section
/-! SUPPORT. The PPU bus region by region, and the scroll, address and data ports in the statements' words (spec/20_memory.md R60 to R64,
spec/50_ppu.md R231 to R234). -/

namespace Sys2Proof.Machine

/-! ## The PPU bus -/

section
variable {a : PAddr} (b : Byte) (s : State)

theorem ppuRead_of_chr (h : a.toNat < 0x2000) : ppuRead a s = s.cart.chr.read a.toNat := if_pos h

theorem ppuRead_of_nametable (h : 0x2000 ≤ a.toNat) (h' : a.toNat < 0x3F00) :
    ppuRead a s = s.vram.read (ntIndex s.cart.mirror a.toNat) := by
  rw [ppuRead, if_neg (Nat.not_lt.2 h), if_pos h']

theorem ppuRead_of_palette (h : 0x3F00 ≤ a.toNat) : ppuRead a s = s.pal.read (palIndex a.toNat) := by
  rw [ppuRead, if_neg (by omega), if_neg (Nat.not_lt.2 h)]

theorem ppuWrite_of_chr (h : a.toNat < 0x2000) : ppuWrite a b s = s := if_pos h

theorem ppuWrite_of_nametable (h : 0x2000 ≤ a.toNat) (h' : a.toNat < 0x3F00) :
    ppuWrite a b s = s.setVram (s.vram.write (ntIndex s.cart.mirror a.toNat) b) := by
  rw [ppuWrite, if_neg (Nat.not_lt.2 h), if_pos h']

theorem ppuWrite_of_palette (h : 0x3F00 ≤ a.toNat) : ppuWrite a b s = s.setPal (s.pal.write (palIndex a.toNat) b) := by
  rw [ppuWrite, if_neg (by omega), if_neg (Nat.not_lt.2 h)]

end

/-! ## The data port -/

theorem nextVaddr_eq (u : Ppu) :
    nextVaddr u = BitVec.ofNat 14 (u.vaddr.toNat + if u.ctrl.toNat / 4 % 2 = 1 then 32 else 1) :=
  BitVec.eq_of_toNat_eq (by rw [nextVaddr_toNat, BitVec.toNat_ofNat])

/-- Below the palette a read answers the buffer and refills it (R233). -/
theorem readData_of_delayed {s : State} (h : s.ppu.vaddr.toNat < 0x3F00) : readData s =
    (s.ppu.readBuf, s.setPpu { s.ppu with readBuf := ppuRead s.ppu.vaddr s, vaddr := nextVaddr s.ppu }) :=
  if_neg (Nat.not_le.2 h)

/-- The nametable byte under a palette address is 0x1000 below it (R233). -/
theorem and_underPalette_toNat {a : PAddr} (h : 0x3F00 ≤ a.toNat) : (a &&& 0x2FFF).toNat = a.toNat - 0x1000 := by
  have ha := a.isLt
  have htop : a.toNat / 2 ^ 12 = 3 := by omega
  have hhigh : (a.toNat &&& 0x2FFF) / 2 ^ 12 = 2 := by rw [Nat.and_div_two_pow, htop]; rfl
  have hlow : (a.toNat &&& 0x2FFF) % 2 ^ 12 = a.toNat % 2 ^ 12 := by
    rw [Nat.and_mod_two_pow, show 0x2FFF % 2 ^ 12 = 2 ^ 12 - 1 from rfl, Nat.and_two_pow_sub_one_eq_mod, Nat.mod_mod]
  rw [BitVec.toNat_and, show (0x2FFF : PAddr).toNat = 0x2FFF from rfl]
  omega

/-- From the palette on a read answers the palette byte and buffers the nametable byte under it (R233). -/
theorem readData_of_palette {s : State} (h : 0x3F00 ≤ s.ppu.vaddr.toNat) : readData s =
    (s.pal.read (palIndex s.ppu.vaddr.toNat), s.setPpu { s.ppu with
      readBuf := s.vram.read (ntIndex s.cart.mirror (s.ppu.vaddr.toNat - 0x1000)), vaddr := nextVaddr s.ppu }) := by
  rw [readData, if_pos h, ppuRead_of_palette s h, and_underPalette_toNat h]

/-! ## The scroll and address ports -/

/-- A control bit's scroll offset as a product. -/
theorem ite_ctrlBit (u : Ppu) (i n : Nat) : (if u.ctrl.getLsbD i then n else 0) = n * (u.ctrl.toNat / 2 ^ i % 2) := by
  rw [getLsbD_eq_beq]
  rcases Nat.mod_two_eq_zero_or_one (u.ctrl.toNat / 2 ^ i) with h | h <;> simp [h]

theorem writeScroll_first {s : State} (h : s.ppu.w = false) (b : Byte) : writeScroll b s =
    s.setPpu { s.ppu with xScroll := b.toNat + 256 * (s.ppu.ctrl.toNat % 2), w := true } := by
  rw [writeScroll, h, if_neg Bool.false_ne_true, ite_ctrlBit, pow_zero, Nat.div_one]

theorem writeScroll_second {s : State} (h : s.ppu.w = true) (b : Byte) : writeScroll b s =
    s.setPpu { s.ppu with yScroll := (b.toNat + 240 * (s.ppu.ctrl.toNat / 2 % 2)) % 480, w := false } := by
  rw [writeScroll, if_pos h, ite_ctrlBit, pow_one]

/-- A multiple of 256 and a byte put together. -/
theorem or_eq_ofNat {x y : PAddr} {n : Nat} (hx : x.toNat = n * 256) (hy : y.toNat < 256) :
    x ||| y = BitVec.ofNat 14 (n * 256 + y.toNat) := by
  have hor : x.toNat ||| y.toNat = n * 256 + y.toNat := by
    rw [hx, show n * 256 = n <<< 8 from (Nat.shiftLeft_eq n 8).symm, Nat.shiftLeft_add_eq_or_of_lt hy]
  apply BitVec.eq_of_toNat_eq
  have hlt := (x ||| y).isLt
  rw [BitVec.toNat_or, hor] at hlt
  rw [BitVec.toNat_or, hor, BitVec.toNat_ofNat, Nat.mod_eq_of_lt hlt]

theorem addrHigh_toNat (b : Byte) : ((b &&& 0x3F).setWidth 14 <<< 8 : PAddr).toNat = b.toNat % 64 * 256 := by
  have hlow : (b &&& 0x3F).toNat = b.toNat % 64 := Nat.and_two_pow_sub_one_eq_mod b.toNat 6
  rw [BitVec.toNat_shiftLeft, BitVec.toNat_setWidth, hlow, Nat.shiftLeft_eq]
  omega

theorem and_lowByte_toNat (a : PAddr) : (a &&& 0x00FF).toNat = a.toNat % 256 := Nat.and_two_pow_sub_one_eq_mod a.toNat 8

theorem and_highBits_toNat (a : PAddr) : (a &&& 0x3F00).toNat = a.toNat / 256 * 256 := by
  have ha := a.isLt
  have hhigh : (a.toNat &&& 0x3F00) / 2 ^ 8 = a.toNat / 2 ^ 8 := by
    rw [Nat.and_div_two_pow, show 0x3F00 / 2 ^ 8 = 2 ^ 6 - 1 from rfl, Nat.and_two_pow_sub_one_eq_mod]
    omega
  have hlow : (a.toNat &&& 0x3F00) % 2 ^ 8 = 0 := by
    rw [Nat.and_mod_two_pow, show 0x3F00 % 2 ^ 8 = 0 from rfl, Nat.and_zero]
  rw [BitVec.toNat_and, show (0x3F00 : PAddr).toNat = 0x3F00 from rfl]
  omega

theorem zextAddr_toNat (b : Byte) : (b.setWidth 14 : PAddr).toNat = b.toNat := by
  have hb := b.isLt
  rw [BitVec.toNat_setWidth]
  omega

/-- The address after the first write: the byte's low six bits above the old low byte (R232). -/
theorem writeAddr_first {s : State} (h : s.ppu.w = false) (b : Byte) : writeAddr b s =
    s.setPpu { s.ppu with vaddr := BitVec.ofNat 14 (b.toNat % 64 * 256 + s.ppu.vaddr.toNat % 256), w := true } := by
  have hlow := and_lowByte_toNat s.ppu.vaddr
  rw [writeAddr, h, if_neg Bool.false_ne_true, or_eq_ofNat (addrHigh_toNat b) (by omega), hlow]

/-- The address after the second write: the byte under the old high bits (R232). -/
theorem writeAddr_second {s : State} (h : s.ppu.w = true) (b : Byte) : writeAddr b s =
    s.setPpu { s.ppu with vaddr := BitVec.ofNat 14 (s.ppu.vaddr.toNat / 256 * 256 + b.toNat), w := false } := by
  have hb := b.isLt
  rw [writeAddr, if_pos h, or_eq_ofNat (and_highBits_toNat s.ppu.vaddr) (by rwa [zextAddr_toNat]), zextAddr_toNat]

end Sys2Proof.Machine
end

section
/-! The statements on the PPU's register window. -/

namespace Sys2Proof.Proofs

open Sys2Proof.Machine

/-- Settles O52. The last clause is the register write's fall-through. -/
theorem statusAndWriteOnlyPorts : Obligations.StatusAndWriteOnlyPorts := by
  intro s b
  refine ⟨?status, fun r hr => ?writeOnly, rfl⟩
  case status =>
    change (statusByte s.ppu, _) = _
    rw [statusByte]
    cases s.ppu.vblank <;> rfl
  case writeOnly => fin_cases hr <;> rfl

/-- Settles O55. The byte's increment wraps as the number's. -/
theorem controlMaskAndOamPorts : Obligations.ControlMaskAndOamPorts := by
  intro s b
  refine ⟨rfl, rfl, rfl, rfl, ?_⟩
  rw [← add_one_eq_ofNat]
  rfl

/-- Settles O53: the pairs are a first and a second write of each port, under the one toggle. -/
theorem scrollAndAddressPairs : Obligations.ScrollAndAddressPairs := by
  intro s b1 b2
  refine ⟨fun h => ?scrollPair, fun h => ?addrPair, fun h => ?mixedPair, ?scrollToggle, ?addrToggle⟩
  case scrollPair =>
    change writeScroll b2 (writeScroll b1 s) = _
    rw [writeScroll_first h, writeScroll_second rfl]
    simp [State.setPpu, h]
  case addrPair =>
    change writeAddr b2 (writeAddr b1 s) = _
    have hhigh : (BitVec.ofNat 14 (b1.toNat % 64 * 256 + s.ppu.vaddr.toNat % 256)).toNat / 256 = b1.toNat % 64 := by
      rw [BitVec.toNat_ofNat]
      omega
    rw [writeAddr_first h, writeAddr_second rfl, State.setPpu_ppu, hhigh]
    simp [State.setPpu, h]
  case mixedPair =>
    change writeAddr b2 (writeScroll b1 s) = _
    rw [writeScroll_first h, writeAddr_second rfl]
    simp [State.setPpu, h]
  case scrollToggle =>
    change (writeScroll b1 s).ppu.w = _
    cases h : s.ppu.w
    · rw [writeScroll_first h]; rfl
    · rw [writeScroll_second h]; rfl
  case addrToggle =>
    change (writeAddr b1 s).ppu.w = _
    cases h : s.ppu.w
    · rw [writeAddr_first h]; rfl
    · rw [writeAddr_second h]; rfl

/-- Settles O54: each port access by the region of the PPU bus it reaches. -/
theorem dataPort : Obligations.DataPort := by
  intro s b a next nt
  have hnext : nextVaddr s.ppu = next := nextVaddr_eq s.ppu
  refine ⟨fun h => ?readChr, fun h h' => ?readNametable, fun h => ?readPalette, fun h => ?writeChr,
    fun h h' => ?writeNametable, fun h => ?writePalette⟩
  case readChr =>
    change readData s = _
    rw [readData_of_delayed (by omega), ppuRead_of_chr s h, hnext]
    rfl
  case readNametable =>
    change readData s = _
    rw [readData_of_delayed h', ppuRead_of_nametable s h h', hnext]
    rfl
  case readPalette =>
    change readData s = _
    rw [readData_of_palette h, hnext]
    rfl
  case writeChr =>
    change writeData b s = _
    rw [writeData, ppuWrite_of_chr b s h, hnext]
    rfl
  case writeNametable =>
    change writeData b s = _
    rw [writeData, ppuWrite_of_nametable b s h h', State.setVram_ppu, hnext]
    rfl
  case writePalette =>
    change writeData b s = _
    rw [writeData, ppuWrite_of_palette b s h, State.setPal_ppu, hnext]
    rfl

end Sys2Proof.Proofs
end

section
/-! SUPPORT. A PPU cycle's next position, flag and `frame_ready` from the timing invariant (spec/50_ppu.md R240 to R246), in the
statements' words. -/

namespace Sys2Proof.Machine

open Sys2Proof.Claims

/-- The last cycle of the scanline; PreRendering's is its length less one (R241 to R243). -/
def lastCycle (u : Ppu) : Nat :=
  if u.stage = .preRendering then (if u.parity && u.mask.getLsbD 3 && u.mask.getLsbD 4 then 338 else 339) else 340

/-- The position after the last cycle of a scanline: the next scanline, with its stage, and the parity toggled on the way to
PreRendering (R241 to R244). -/
def nextLine (u : Ppu) : Ppu :=
  { u with
    cycle := 0
    scanline := (u.scanline + 1) % 262
    stage := if u.scanline = 239 then .postRendering else if u.scanline = 260 then .preRendering
      else if u.scanline = 261 then .rendering else u.stage
    parity := if u.scanline = 260 then !u.parity else u.parity }

/-- Inside Rendering and inside PostRendering the next scanline is the next number's. -/
theorem nextLine_within {u : Ppu} (hlast : u.scanline ≠ 239) (hlt : u.scanline < 260) :
    nextLine u = { u with cycle := 0, scanline := u.scanline + 1 } := by
  have hnext : (u.scanline + 1) % 262 = u.scanline + 1 := Nat.mod_eq_of_lt (by omega)
  rw [nextLine, hnext, if_neg hlast, if_neg (by omega), if_neg (by omega), if_neg (by omega)]

/-- The position after a cycle. -/
def nextPosition (u : Ppu) : Ppu := if u.cycle < lastCycle u then { u with cycle := u.cycle + 1 } else nextLine u

theorem nextPosition_of_lt {u : Ppu} (h : u.cycle < lastCycle u) : nextPosition u = { u with cycle := u.cycle + 1 } := if_pos h

theorem nextPosition_of_le {u : Ppu} (h : lastCycle u ≤ u.cycle) : nextPosition u = nextLine u := if_neg (Nat.not_lt.2 h)

/-- The vblank flag after a cycle: set at scanline 241 cycle 1, cleared at scanline 261 cycle 1 (R241, R245). -/
def nextVblank (u : Ppu) : Bool :=
  if u.scanline = 241 ∧ u.cycle = 1 then true else if u.scanline = 261 ∧ u.cycle = 1 then false else u.vblank

theorem ite_vblank (c : Prop) [Decidable c] (u : Ppu) (b : Bool) :
    (if c then { u with vblank := b } else u) = { u with vblank := if c then b else u.vblank } := by
  split_ifs <;> rfl

section
variable {s : State} (h : timingOk s.ppu = true)
include h

theorem stepPreRendering_ppu (hstage : s.ppu.stage = .preRendering) :
    (stepPreRendering s).ppu = { nextPosition s.ppu with vblank := nextVblank s.ppu } := by
  obtain ⟨hline, -⟩ := (timingOk_preRendering hstage).1 h
  have hvblank : (if s.ppu.cycle = 1 then false else s.ppu.vblank) = nextVblank s.ppu := by simp [nextVblank, hline]
  have hlength : preRenderingLength { s.ppu with vblank := nextVblank s.ppu } = lastCycle s.ppu + 1 := by
    rw [preRenderingLength, lastCycle, if_pos hstage]
    split_ifs <;> rfl
  simp only [stepPreRendering, ite_vblank, hvblank, hlength]
  rcases Nat.lt_or_ge s.ppu.cycle (lastCycle s.ppu) with hlast | hlast
  · rw [if_neg (by omega), nextPosition_of_lt hlast]
    rfl
  · rw [if_pos (by omega), nextPosition_of_le hlast]
    simp [nextLine, hline]

theorem stepRendering_ppu (hstage : s.ppu.stage = .rendering) :
    (stepRendering s).ppu = { nextPosition s.ppu with vblank := nextVblank s.ppu } := by
  obtain ⟨hline, -⟩ := (timingOk_rendering hstage).1 h
  obtain ⟨f, hf⟩ := exists_ite_emitPixel (1 ≤ s.ppu.cycle ∧ s.ppu.cycle ≤ 256) (s.ppu.cycle - 1) s.ppu.scanline s
  have hvblank : nextVblank s.ppu = s.ppu.vblank := by rw [nextVblank, if_neg (by omega), if_neg (by omega)]
  have hlength : lastCycle s.ppu = 340 := by simp [lastCycle, hstage]
  simp only [stepRendering, hf, State.setFb_ppu, hvblank]
  rcases Nat.lt_or_ge s.ppu.cycle 340 with hlast | hlast
  · rw [if_neg (by omega), nextPosition_of_lt (by rwa [hlength])]
    rfl
  · rw [if_pos (by omega), nextPosition_of_le (by rwa [hlength])]
    by_cases hend : s.ppu.scanline + 1 = 240
    · simp [nextLine, Nat.succ.inj hend]
    · rw [if_neg hend, nextLine_within (by omega) (by omega)]
      rfl

theorem stepPostRendering_ppu (hstage : s.ppu.stage = .postRendering) :
    (stepPostRendering s).ppu = { nextPosition s.ppu with vblank := nextVblank s.ppu } := by
  obtain ⟨hlow, hhigh, -⟩ := (timingOk_postRendering hstage).1 h
  have hvblank : (if atVblankEdge s.ppu then true else s.ppu.vblank) = nextVblank s.ppu := by
    rw [nextVblank, if_neg (show ¬(s.ppu.scanline = 261 ∧ s.ppu.cycle = 1) by omega)]
    simp [atVblankEdge]
  have hlength : lastCycle s.ppu = 340 := by simp [lastCycle, hstage]
  simp only [stepPostRendering, ite_vblank, hvblank]
  rcases Nat.lt_or_ge s.ppu.cycle 340 with hlast | hlast
  · rw [if_neg (by omega), nextPosition_of_lt (by rwa [hlength])]
    rfl
  · rw [if_pos (by omega), nextPosition_of_le (by rwa [hlength])]
    by_cases hend : s.ppu.scanline + 1 = 261
    · simp [nextLine, Nat.succ.inj hend]
    · rw [if_neg hend, nextLine_within (by omega) (by omega)]
      rfl

/-- A PPU cycle's registers. -/
theorem ppuStep_ppu : (ppuStep s).2.ppu = { nextPosition s.ppu with vblank := nextVblank s.ppu } := by
  cases hstage : s.ppu.stage with
  | preRendering => simpa only [ppuStep, hstage] using stepPreRendering_ppu h hstage
  | rendering => simpa only [ppuStep, hstage] using stepRendering_ppu h hstage
  | postRendering => simpa only [ppuStep, hstage] using stepPostRendering_ppu h hstage

/-- `frame_ready` is set as scanline 239 completes (R252). -/
theorem ppuStep_frameReady :
    (ppuStep s).2.frameReady = (s.frameReady || (s.ppu.scanline == 239 && s.ppu.cycle == 340)) := by
  cases hstage : s.ppu.stage with
  | preRendering =>
    obtain ⟨hline, -⟩ := (timingOk_preRendering hstage).1 h
    obtain ⟨v, c, l, g, hs⟩ := stepPreRendering_state s
    simp [ppuStep, hstage, hs, hline]
  | rendering =>
    obtain ⟨-, hcycle⟩ := (timingOk_rendering hstage).1 h
    obtain ⟨f, hf⟩ := exists_ite_emitPixel (1 ≤ s.ppu.cycle ∧ s.ppu.cycle ≤ 256) (s.ppu.cycle - 1) s.ppu.scanline s
    simp only [ppuStep, hstage, stepRendering, hf, State.setFb_ppu]
    split_ifs with hlast hend
    · simp [Nat.succ.inj hend, show s.ppu.cycle = 340 by omega]
    · simp [show s.ppu.scanline ≠ 239 by omega]
    · simp [show s.ppu.cycle ≠ 340 by omega]
  | postRendering =>
    obtain ⟨hlow, -⟩ := (timingOk_postRendering hstage).1 h
    obtain ⟨v, c, l, g, p, hs⟩ := stepPostRendering_state s
    simp [ppuStep, hstage, hs, show s.ppu.scanline ≠ 239 by omega]

end

/-! ## The end of the frame -/

/-- How many PPU cycles lead from a position to the first cycle of the next PreRendering: the rest of the scanline, and the
scanlines after it, each of 341 cycles, in the order 261, 0, 1 and so on up to 260 (R241 to R243). -/
def cyclesLeft (u : Ppu) : Nat := lastCycle u - u.cycle + 341 * (261 - (u.scanline + 1) % 262) + 1

/-- The first cycle of PreRendering. -/
def atFrameStart (u : Ppu) : Prop := u.stage = .preRendering ∧ u.scanline = 261 ∧ u.cycle = 0

theorem lastCycle_le (u : Ppu) : lastCycle u ≤ 340 := by
  unfold lastCycle
  split_ifs <;> decide

section
variable {u : Ppu} (h : timingOk u = true)
include h

theorem scanline_le_of_timingOk : u.scanline ≤ 261 := by
  cases hstage : u.stage with
  | preRendering => exact ((timingOk_preRendering hstage).1 h).1.le
  | rendering => exact ((timingOk_rendering hstage).1 h).1.trans (by decide)
  | postRendering => exact ((timingOk_postRendering hstage).1 h).2.1.trans (by decide)

theorem preRendering_iff_scanline : u.stage = .preRendering ↔ u.scanline = 261 := by
  cases hstage : u.stage with
  | preRendering => simp [((timingOk_preRendering hstage).1 h).1]
  | rendering => simp [(((timingOk_rendering hstage).1 h).1.trans_lt (by decide : 239 < 261)).ne]
  | postRendering => simp [(((timingOk_postRendering hstage).1 h).2.1.trans_lt (by decide : 260 < 261)).ne]

/-- Scanlines 240 to 260 are PostRendering's. -/
theorem stage_of_postLine (hlow : 240 ≤ u.scanline) (hhigh : u.scanline ≤ 260) : u.stage = .postRendering := by
  cases hstage : u.stage with
  | preRendering => have := ((timingOk_preRendering hstage).1 h).1; omega
  | rendering => have := ((timingOk_rendering hstage).1 h).1; omega
  | postRendering => rfl

theorem lastCycle_of_scanline (hline : u.scanline ≠ 261) : lastCycle u = 340 :=
  if_neg fun hstage => hline ((preRendering_iff_scanline h).1 hstage)

theorem lastCycle_nextLine (hline : u.scanline ≠ 260) : lastCycle (nextLine u) = 340 := by
  refine if_neg fun hstage => ?_
  simp only [nextLine] at hstage
  split_ifs at hstage with h239 h261
  exact h261 ((preRendering_iff_scanline h).1 hstage)

/-- Every cycle but the frame's last brings the frame's end nearer by one and keeps the parity. -/
theorem cyclesLeft_nextPosition (hmore : cyclesLeft u ≠ 1) :
    cyclesLeft (nextPosition u) + 1 = cyclesLeft u ∧ (nextPosition u).parity = u.parity := by
  have hline := scanline_le_of_timingOk h
  rcases Nat.lt_or_ge u.cycle (lastCycle u) with hc | hc
  · have hsame : lastCycle { u with cycle := u.cycle + 1 } = lastCycle u := rfl
    rw [nextPosition_of_lt hc]
    refine ⟨?_, rfl⟩
    simp only [cyclesLeft, hsame]
    omega
  · have hne : u.scanline ≠ 260 := fun hend => hmore (by simp only [cyclesLeft, hend]; omega)
    rw [nextPosition_of_le hc]
    refine ⟨?_, if_neg hne⟩
    rw [cyclesLeft, lastCycle_nextLine h hne]
    simp only [nextLine, cyclesLeft]
    omega

/-- The frame's last cycle leads to the first of PreRendering and toggles the parity. -/
theorem atFrameStart_nextPosition (hlast : cyclesLeft u = 1) :
    atFrameStart (nextPosition u) ∧ (nextPosition u).parity = !u.parity := by
  have hline := scanline_le_of_timingOk h
  rw [cyclesLeft] at hlast
  have hend : u.scanline = 260 := by omega
  rw [nextPosition_of_le (by omega)]
  simp [nextLine, hend, atFrameStart]

end

/-- The vblank edge comes with 6819 cycles left: those of scanline 241 from cycle 1 on, and 19 scanlines. -/
theorem ppuStep_edge_iff {s : State} (h : timingOk s.ppu = true) : (ppuStep s).1 = true ↔ cyclesLeft s.ppu = 6819 := by
  have hline := scanline_le_of_timingOk h
  have hlast := lastCycle_le s.ppu
  simp only [ppuStep_edge, Bool.and_eq_true, beq_iff_eq, cyclesLeft]
  constructor
  · rintro ⟨-, h241, hcycle⟩
    rw [lastCycle_of_scanline h (by omega), h241, hcycle]
  · intro hleft
    have h241 : s.ppu.scanline = 241 := by omega
    have hlength := lastCycle_of_scanline h (by omega)
    exact ⟨stage_of_postLine h (by omega) (by omega), h241, by omega⟩

/-- From any position, the cycles left lead to the first of the next PreRendering with the parity toggled, and the vblank edge is
among them exactly when it is still to come. -/
theorem ppuSteps_toFrameEnd {n : Nat} {s : State} (h : timingOk s.ppu = true) (hleft : cyclesLeft s.ppu = n + 1) :
    atFrameStart (ppuSteps (n + 1) s).ppu ∧ (ppuSteps (n + 1) s).ppu.parity = !s.ppu.parity ∧
      edgesIn (n + 1) s = if 6819 ≤ n + 1 then 1 else 0 := by
  induction n generalizing s with
  | zero =>
    obtain ⟨hstart, hparity⟩ := atFrameStart_nextPosition h hleft
    simp only [ppuSteps, edgesIn, ppuStep_ppu h, ppuStep_edge_iff h, hleft]
    exact ⟨hstart, hparity, rfl⟩
  | succ n ih =>
    obtain ⟨hnear, hparity⟩ := cyclesLeft_nextPosition h (by omega)
    have hnext : cyclesLeft (ppuStep s).2.ppu = n + 1 := by
      rw [ppuStep_ppu h]
      exact Nat.succ.inj (hnear.trans hleft)
    obtain ⟨hstart, hparity', hedges⟩ := ih (timingOk_ppuStep h) hnext
    refine ⟨hstart, ?_, ?_⟩
    · rw [ppuSteps, hparity', ppuStep_ppu h]
      exact congrArg _ hparity
    · rw [edgesIn, hedges]
      simp only [ppuStep_edge_iff h, hleft]
      split_ifs <;> omega

end Sys2Proof.Machine
end

section
/-! The statements on the PPU's position and on the length of a frame. -/

namespace Sys2Proof.Proofs

open Sys2Proof.Machine Sys2Proof.Claims

/-- Settles O57: `ppuStep_ppu` gives the registers in one equation, whose two cases are the two clauses. -/
theorem ppuPositionAdvance : Obligations.PpuPositionAdvance := by
  intro s h u k
  have hppu : u = { nextPosition s.ppu with vblank := nextVblank s.ppu } := ppuStep_ppu h
  have hvblank : u.vblank = nextVblank s.ppu := by rw [hppu]
  refine ⟨fun hlt => ?within, fun hle => ?lineEnd, hvblank, ppuStep_frameReady h⟩
  case within =>
    rw [hvblank, hppu, nextPosition_of_lt hlt]
  case lineEnd =>
    rw [hvblank, hppu, nextPosition_of_le hle]
    rfl

/-- Settles O58: the first cycle of PreRendering has the frame's length left. -/
theorem frameLengthAndOneEdge : Obligations.FrameLengthAndOneEdge := by
  intro s hstage hline hcycle n
  have htiming : timingOk s.ppu = true := (timingOk_preRendering hstage).2 ⟨hline, by omega⟩
  obtain ⟨m, hleft⟩ : ∃ m, cyclesLeft s.ppu = m + 1 := ⟨_, rfl⟩
  have hn : n = m + 1 := by
    rw [← hleft, cyclesLeft, lastCycle, if_pos hstage, hline, hcycle]
    simp only [n]
    split_ifs <;> rfl
  have hedgeAhead : 6819 ≤ m + 1 := by
    rw [← hleft, cyclesLeft, hline]
    omega
  obtain ⟨⟨hstage', hline', hcycle'⟩, hparity, hedges⟩ := ppuSteps_toFrameEnd htiming hleft
  rw [hn]
  exact ⟨hstage', hline', hcycle', hparity, hedges.trans (if_pos hedgeAhead)⟩

end Sys2Proof.Proofs
end

section
/-! SUPPORT. The pixel pipeline (spec/50_ppu.md R250, R251) as reads of the PPU's memories: the palette cell a pixel shows, the scrolled
position taken apart, and each table's bytes. -/

namespace Sys2Proof.Machine

theorem paddr_toNat_ofNat {a : Nat} (h : a < 0x4000) : (BitVec.ofNat 14 a : PAddr).toNat = a :=
  (BitVec.toNat_ofNat a 14).trans (Nat.mod_eq_of_lt h)

/-- The background palette's cells are the palette's first 16 (R63). -/
theorem ppuReadNat_palette {i : Nat} (h : i < 16) (s : State) : ppuReadNat (0x3F00 + i) s = s.pal.read (palIndex i) := by
  have ha : (BitVec.ofNat 14 (0x3F00 + i)).toNat = 0x3F00 + i := paddr_toNat_ofNat (by omega)
  have hcell : palIndex (0x3F00 + i) = palIndex i := by
    simp only [palIndex_eq]
    split_ifs <;> omega
  rw [ppuReadNat, ppuRead_of_palette s (by omega), ha, hcell]

theorem ppuReadNat_nametable {a : Nat} (h : 0x2000 ≤ a) (h' : a < 0x3F00) (s : State) :
    ppuReadNat a s = s.vram.read (ntIndex s.cart.mirror a) := by
  have ha : (BitVec.ofNat 14 a).toNat = a := paddr_toNat_ofNat (by omega)
  rw [ppuReadNat, ppuRead_of_nametable s (by omega) (by omega), ha]

theorem ppuReadNat_chr {a : Nat} (h : a < 0x2000) (s : State) : ppuReadNat a s = s.cart.chr.read a := by
  have ha : (BitVec.ofNat 14 a).toNat = a := paddr_toNat_ofNat (by omega)
  rw [ppuReadNat, ppuRead_of_chr s (by omega), ha]

theorem bitAt_eq (v : Byte) (i : Nat) : bitAt v i = v.toNat / 2 ^ i % 2 := by
  rw [bitAt, getLsbD_eq_beq]
  rcases Nat.mod_two_eq_zero_or_one (v.toNat / 2 ^ i) with h | h <;> simp [bit01, h]

theorem bitAt_lt (v : Byte) (i : Nat) : bitAt v i < 2 := bit01_lt _

theorem patternTable_eq (u : Ppu) : patternTable u = if u.ctrl.toNat / 16 % 2 = 1 then 0x1000 else 0 := by
  simp only [patternTable, getLsbD_eq_beq, beq_iff_eq, Nat.reducePow]

/-- Both planes of every tile lie in CHR (R251). -/
theorem patternAddress_lt (u : Ppu) {tile fy q : Nat} (htile : tile < 256) (hfy : fy < 8) (hq : q < 2) :
    patternTable u + tile * 16 + fy + 8 * q < 0x2000 := by
  unfold patternTable
  split_ifs <;> omega

/-- The shift that selects a quadrant is by pairs of bits. -/
theorem two_pow_quadrant (r c : Nat) : 2 ^ (r * 4 + c * 2) = 4 ^ (2 * r + c) := by
  rw [show (4 : Nat) = 2 ^ 2 from rfl, ← pow_mul]
  congr 1
  omega

/-- A palette and two plane bits name a background cell (R250). -/
theorem paletteCell_lt (sel : Nat) {p1 p0 : Nat} (h1 : p1 < 2) (h0 : p0 < 2) : sel % 4 * 4 + (p1 * 2 + p0) < 16 := by omega

/-- The byte of a pixel is a background palette cell's, whatever the tables hold. -/
theorem exists_pixelByte (px sy : Nat) (s : State) : ∃ i, i < 16 ∧ pixelByte px sy s = s.pal.read (palIndex i) :=
  have hcell := paletteCell_lt _ (bitAt_lt _ _) (bitAt_lt _ _)
  ⟨_, hcell, ppuReadNat_palette hcell s⟩

/-- The position of a column in the plane of two nametables side by side: its nametable, its tile and the bit in the tile. -/
theorem column_position {X n col fx : Nat} (h : X = 256 * n + 8 * col + fx) (hcol : col < 32) (hfx : fx < 8) :
    X / 256 = n ∧ X % 256 / 8 = col ∧ X % 8 = fx := by omega

/-- The same of a line, in the plane of two nametables one above the other. -/
theorem line_position {Y n row fy : Nat} (h : Y = 240 * n + 8 * row + fy) (hrow : row < 30) (hfy : fy < 8) :
    Y / 240 = n ∧ Y % 240 / 8 = row ∧ Y % 8 = fy := by omega

end Sys2Proof.Machine
end

section
/-! The statements on the pixel pipeline. -/

namespace Sys2Proof.Proofs

open Sys2Proof.Machine

/-- Settles O59: the frame buffer after a cycle is `ppuStep_fb`, one write in a drawing cycle. -/
theorem pixelWrites : Obligations.PixelWrites := by
  intro s px sy
  refine ⟨fun hstage hfirst hlast => ?drawn, fun hidle => ?idle⟩
  case drawn =>
    rw [ppuStep_fb, if_pos ⟨hstage, hfirst, hlast⟩]
    exact ⟨Memory.read_write_same _ _ _, exists_pixelByte px sy s, fun k hk => Memory.read_write_other _ _ hk⟩
  case idle => rw [ppuStep_fb, if_neg hidle]

/-- Settles O60: the scrolled position taken apart gives the addresses in the nametable, and each read is one table's. -/
theorem pixelFromTables : Obligations.PixelFromTables := by
  intro s px sy nt row col fx fy hnt hrow hcol hfx hfy hX hY nametable tile attr sel pa plane
  obtain ⟨hntX, hcolX, hfxX⟩ := column_position hX hcol hfx
  obtain ⟨hntY, hrowY, hfyY⟩ := line_position hY hrow hfy
  have hnametable : ∀ k, k < 0x400 → ppuReadNat (0x2000 + 0x400 * nt + k) s = nametable k := fun k hk =>
    ppuReadNat_nametable (by omega) (by omega) s
  have htile : ppuReadNat (0x2000 + 0x400 * nt + row * 32 + col) s = nametable (32 * row + col) := by
    rw [Nat.add_assoc, Nat.mul_comm row, hnametable _ (by omega)]
  have hattr : ppuReadNat (0x2000 + 0x400 * nt + 0x3C0 + row / 4 * 8 + col / 4) s =
      nametable (0x3C0 + 8 * (row / 4) + col / 4) := by
    rw [Nat.add_assoc _ 0x3C0, Nat.add_assoc, Nat.mul_comm (row / 4), hnametable _ (by omega)]
  have hpattern : patternTable s.ppu + tile * 16 + fy = pa := by rw [patternTable_eq, Nat.mul_comm tile]
  have hplane : ∀ q, q < 2 → bitAt (ppuReadNat (pa + 8 * q) s) (7 - fx) = plane q := fun q hq => by
    have hlt : pa + 8 * q < 0x2000 := hpattern ▸ patternAddress_lt s.ppu (BitVec.isLt _) hfy hq
    rw [ppuReadNat_chr hlt, bitAt_eq]
  have hcell : sel * 4 + (plane 1 * 2 + plane 0) < 16 :=
    paletteCell_lt _ (Nat.mod_lt _ Nat.two_pos) (Nat.mod_lt _ Nat.two_pos)
  have hbyte : pixelByte px sy s = ppuReadNat (0x3F00 + (sel * 4 + (plane 1 * 2 + plane 0))) s := by
    simp only [pixelByte, hntX, hcolX, hfxX, hntY, hrowY, hfyY, Nat.div_add_mod', htile, hattr, two_pow_quadrant]
    rw [hpattern, ← hplane 0 (by decide), ← hplane 1 (by decide)]
    rfl
  rw [hbyte, ppuReadNat_palette hcell]
  congr 2
  omega

end Sys2Proof.Proofs
end

section
/-! The statements on the CPU's other steps: idle, NMI entry, the illegal opcode, and the tick of a halted machine
(spec/60_exceptions.md R271, R286, R290, R297). -/

namespace Sys2Proof.Machine

open Sys2Proof.Claims

/-! ## A tick, by the latch, the phase and the CPU's priority -/

/-- A halted machine's tick is the fault (R297). -/
theorem step_of_halted {s : State} {h : Halt} (hhalted : s.halted = some h) :
    step s = .fault (.illegalOpcode h.op h.addr) := by
  simp only [step, tick, hhalted]

/-- On the CPU's phase a running machine's tick is a CPU step, and then counts itself (R296). -/
theorem step_of_cpuPhase {s : State} (hrunning : s.halted = none) (hphase : s.master % 4 = 0) :
    step s = afterNext countTick (cpuStep s) := by
  simp only [step, tick, hrunning, if_pos hphase]

theorem cpuStep_of_pending {s : State} (h : 0 < s.pending) :
    cpuStep s = .next ((counted s).setPending (s.pending - 1)) := if_pos h

/-- The latch is served once no idle step is left (R287). -/
theorem cpuStep_of_nmiLatch {s : State} (hpending : s.pending = 0) (hlatch : s.nmiLatch = true) :
    cpuStep s = .next (nmiEntry (counted s)) := by
  rw [cpuStep, if_neg (Nat.not_lt.2 hpending.le), if_pos hlatch]
  rfl

/-! ## The states after an NMI entry and after an illegal opcode -/

/-- NMI entry pushes pc and the status with bit 5 set and bit 4 clear, through a vector in the PRG window (R286). -/
theorem nmiEntry_state (s : State) : nmiEntry s = { s with
    nmiLatch := false
    ram := ((s.ram.write (stackIndex s.sp 0) (high s.pc)).write (stackIndex s.sp 255) (low s.pc)).write
      (stackIndex s.sp 254) ((s.p &&& 0xEF) ||| 0x20)
    sp := s.sp - 3
    p := s.p ||| 0x04
    pc := join (readPrg 0xFFFB s.cart) (readPrg 0xFFFA s.cart)
    pending := 6 } := by
  rw [nmiEntry, enterException_state s.pc (pushedByNmi s.p) (vector := nmiVector) (by decide) (by decide)]
  rfl

/-- The cycle counted for the fetch is taken back, so that only the opcode read and the latch are left (R271). -/
theorem raiseIllegalOpcode_counted (op : Byte) (a : Addr) (s : State) :
    raiseIllegalOpcode op s (busRead a (counted s)).2 =
      (busRead a s).2.setHalted (some { op := op, addr := s.pc }) := by
  have hcycles : (busRead a s).2.setCycles s.cycles = (busRead a s).2 := by
    rw [← busRead_cycles a s]
    rfl
  rw [counted, busRead_setCycles]
  exact congrArg (State.setHalted · (some { op := op, addr := s.pc })) hcycles

end Sys2Proof.Machine

namespace Sys2Proof.Proofs

open Sys2Proof.Machine

/-- Settles O6: the fetch step stops at the opcode byte, and reading that byte does not move the tick count. -/
theorem illegalOpcodeHalts : Obligations.IllegalOpcodeHalts := by
  intro s hfetch hop
  have hnone : opcodeLength (busRead s.pc s).1 = none := (opcodeLength_eq_none_iff _).2 hop
  rw [step_of_atFetch hfetch, fetchStep_of_illegal hnone, raiseIllegalOpcode_counted, ← busRead_master s.pc s]
  rfl

/-- Settles O9: the CPU step is `nmiEntry`, which also keeps the cycle counted. -/
theorem nmiEntryEffect : Obligations.NmiEntryEffect := by
  intro s hrunning hphase hpending hlatch
  rw [step_of_cpuPhase hrunning hphase, cpuStep_of_nmiLatch hpending hlatch, nmiEntry_state]
  rfl

/-- Settles O7: the host's tick of a fault is the state itself with its latch. -/
theorem haltedMachineFaults : Obligations.HaltedMachineFaults := by
  intro s h hhalted
  have hstep := step_of_halted hhalted
  exact ⟨hstep, by simp only [hostTick, hstep, hhalted]⟩

/-- Settles O8. -/
theorem idleStepOnlyCounts : Obligations.IdleStepOnlyCounts := by
  intro s hrunning hphase hpending
  rw [step_of_cpuPhase hrunning hphase, cpuStep_of_pending hpending]
  rfl

end Sys2Proof.Proofs
end

section
/-! SUPPORT. The instructions that do not write pc (spec/70_reset_and_hazards.md R331): each shared operation of theirs leaves it to
the bus and the register writes, which do not touch it. -/

namespace Sys2Proof.Machine

@[simp] theorem setReg_pc (r : Reg) (v : Byte) (s : State) : (setReg r v s).pc = s.pc := by cases r <;> rfl
@[simp] theorem charge_pc (n : Nat) (s : State) : (charge n s).pc = s.pc := rfl
@[simp] theorem push_pc (v : Byte) (s : State) : (push v s).pc = s.pc := by rw [push_eq]; rfl
@[simp] theorem pull_pc (s : State) : (pull s).2.pc = s.pc := by rw [pull_eq]; rfl

/-! ## The instruction families' shared operations -/

section
variable (r d : Reg) (o : Src) (m : MemOp) (t : Timing) (n : Nat) (s : State)

@[simp] theorem loadReg_pc : (loadReg r o t s).pc = s.pc := (setReg_pc _ _ _).trans (fetchM_pc o t s)
@[simp] theorem addWithCarry_pc : (addWithCarry o t s).pc = s.pc := fetchM_pc o t s
@[simp] theorem subWithBorrow_pc : (subWithBorrow o t s).pc = s.pc := fetchM_pc o t s
@[simp] theorem logic_pc (f : Byte → Byte → Byte) : (logic f o t s).pc = s.pc := fetchM_pc o t s
@[simp] theorem compareReg_pc : (compareReg r o t s).pc = s.pc := fetchM_pc o t s
@[simp] theorem bitTest_pc : (bitTest o t s).pc = s.pc := fetchM_pc o t s
@[simp] theorem storeReg_pc : (storeReg r m t s).pc = s.pc := (busWrite_pc _ _ _).trans (locate_pc m t s)

/-- A read-modify-write's one read and one write leave pc alone. -/
theorem readThenWrite_pc (a : Addr) (v : Byte) : (busWrite a v (busRead a (locate m t s).2).2).pc = s.pc := by simp

@[simp] theorem modifyMem_pc (f : Byte → Byte) : (modifyMem f m t s).pc = s.pc := readThenWrite_pc m t s _ _

@[simp] theorem shiftMem_pc (f : Byte → Bool → Byte × Bool) : (shiftMem f m t s).pc = s.pc := readThenWrite_pc m t s _ _

@[simp] theorem transfer_pc : (transfer r d n s).pc = s.pc := setReg_pc _ _ _
@[simp] theorem transferSp_pc : (transferSp n s).pc = s.pc := rfl
@[simp] theorem modifyReg_pc (f : Byte → Byte) : (modifyReg f r n s).pc = s.pc := setReg_pc _ _ _
@[simp] theorem shiftAcc_pc (f : Byte → Bool → Byte × Bool) : (shiftAcc f n s).pc = s.pc := rfl
@[simp] theorem pushByte_pc (v : Byte) : (pushByte v n s).pc = s.pc := push_pc _ _
@[simp] theorem pullAcc_pc : (pullAcc n s).pc = s.pc := pull_pc _
@[simp] theorem pullStatus_pc : (pullStatus n s).pc = s.pc := pull_pc _

end

/-! ## Every instruction -/

/-- The mnemonics that write pc (R331). -/
def pcWriters : List Mnemonic := [.jmp, .jsr, .rts, .rti, .brk, .bpl, .bmi, .bvc, .bvs, .bcc, .bcs, .bne, .beq]

/-- An instruction of another mnemonic leaves pc past itself, where the fetch put it (R80, R331). -/
theorem exec_pc {i : Instr} (s : State) (h : i.row.mnemonic ∉ pcWriters) :
    NextSatisfies (fun t => t.pc = s.pc) (exec i s) := by
  cases i
  case jmpAbs | jmpInd | jsrAbs | rts | rti | brk | bpl | bmi | bvc | bvs | bcc | bcs | bne | beq =>
    simp [Instr.row, pcWriters] at h
  all_goals
    change State.pc _ = s.pc
    simp

end Sys2Proof.Machine

namespace Sys2Proof.Proofs

open Sys2Proof.Machine

/-- Settles O20: every instruction answers a next state, and one of another mnemonic leaves pc in it. -/
theorem onlyControlTransfersWritePc : Obligations.OnlyControlTransfersWritePc := by
  intro i s hi
  have hpc := exec_pc s hi
  obtain ⟨t, ht, -⟩ := exec_next i s
  rw [ht] at hpc
  exact ⟨t, ht, hpc⟩

end Sys2Proof.Proofs
end

section
/-! SUPPORT. The host's reset beside power-on, and the frame as a list of bytes (spec/70_reset_and_hazards.md R311, R312, R322). -/

namespace Sys2Proof

@[simp] theorem Memory.length_toBytes (m : Memory) (i n : Nat) : (m.toBytes i n).length = n := by
  induction n generalizing i with
  | zero => rfl
  | succ n ih => exact congrArg (· + 1) (ih (i + 1))

/-- The list's byte `k` is the memory's at `k` past the start. -/
theorem Memory.getElem?_toBytes (m : Memory) (i : Nat) {k n : Nat} (h : k < n) :
    (m.toBytes i n)[k]? = some (m.read (i + k)) := by
  induction n generalizing i k with
  | zero => exact absurd h (Nat.not_lt_zero k)
  | succ n ih =>
    cases k with
    | zero => rfl
    | succ k =>
      rw [Memory.toBytes, List.getElem?_cons_succ, ih (i + 1) (Nat.lt_of_succ_lt_succ h), Nat.add_right_comm, Nat.add_assoc]

namespace Machine

/-- The frame's byte `k` is the frame buffer's (R322). -/
theorem takeFrame_getElem? (s : State) {k : Nat} (h : k < 61440) : (takeFrame s).1[k]? = some (s.fb.read k) := by
  rw [takeFrame, Memory.getElem?_toBytes s.fb 0 h, Nat.zero_add]

/-- The host's reset is a power-on that keeps the memories and the AddressError record (R311, R312). -/
theorem hostReset_eq_powerOn (s : State) : hostReset s = { powerOn s.cart s.params Inits.zero with
    ram := s.ram, vram := s.vram, oam := s.oam, pal := s.pal, fb := s.fb, sram := s.sram,
    addrError := s.addrError, addrErrorCount := s.addrErrorCount } := by
  rw [hostReset, cpuReset_eq, powerOn_eq]
  rfl

/-- None of what it keeps is among the launch premises (R34). -/
theorem launchOk_hostReset (s : State) : launchOk (hostReset s) = true := by
  rw [hostReset_eq_powerOn]
  exact launchOk_powerOn s.cart s.params Inits.zero

end Machine
end Sys2Proof

namespace Sys2Proof.Proofs

open Sys2Proof.Machine

/-- Settles O16: the reset's values are power-on's, and the memories it keeps are the state's. -/
theorem hostResetAndTakeFrame : Obligations.HostResetAndTakeFrame := by
  intro s
  refine ⟨?reset, launchOk_hostReset s, rfl, Memory.length_toBytes s.fb 0 61440, ?frame⟩
  case reset =>
    rw [hostReset_eq_powerOn, powerOn_eq, join_eq_word]
    rfl
  case frame =>
    intro px py hpx hpy
    exact takeFrame_getElem? s (by omega)

end Sys2Proof.Proofs
end

section
/-! SUPPORT. The cartridge loader in numbers (spec/70_reset_and_hazards.md R315 to R321). -/

namespace Sys2Proof

/-- The memory of a slice of a byte list reads as the list from the slice's start on. -/
theorem Memory.read_ofBytes_slice (bs : List Byte) (off : Nat) {n k : Nat} (h : k < n) :
    (Memory.ofBytes ((bs.drop off).take n)).read k = bs.getD (off + k) 0 := by
  rw [Memory.read_ofBytes, List.getD_eq_getElem?_getD, List.getD_eq_getElem?_getD, List.getElem?_take_of_lt h,
    List.getElem?_drop]

namespace Machine

theorem memoryOk_ofBytes_take (bs : List Byte) (n : Nat) : memoryOk (Memory.ofBytes (bs.take n)) n = true := by
  rw [memoryOk, Memory.wf_ofBytes, Memory.within_ofBytes _ (List.length_take_le n bs)]
  rfl

/-- The trainer, where bit 2 of byte 6 says that one stands before PRG (R315, R316). -/
theorem prgOffset_eq (img : List Byte) :
    prgOffset img = 16 + if (imageByte img 6).toNat / 4 % 2 = 1 then 512 else 0 := by
  simp only [prgOffset, getLsbD_eq_beq, beq_iff_eq, Nat.reducePow]

/-- The payload's end (R315). -/
theorem imageEnd_eq (img : List Byte) : imageEnd img =
    16 + (if (imageByte img 6).toNat / 4 % 2 = 1 then 512 else 0) + 16384 * (imageByte img 4).toNat +
      8192 * (imageByte img 5).toNat := by
  rw [imageEnd, prgOffset_eq]

/-- A shorter image has a zero byte in place of the signature's last. -/
theorem take_eq_signature_iff (img : List Byte) : img.take 4 = signature ↔
    (imageByte img 0).toNat = 0x4E ∧ (imageByte img 1).toNat = 0x45 ∧ (imageByte img 2).toNat = 0x53 ∧
      (imageByte img 3).toNat = 0x1A := by
  match img with
  | [] | [_] | [_, _] | [_, _, _] => simp [signature, imageByte]
  | a :: b :: c :: d :: _ => simp [signature, imageByte, BitVec.toNat_eq]

theorem malformed_iff (img : List Byte) : malformed img = true ↔
    img.length < 16 ∨
    ¬ ((imageByte img 0).toNat = 0x4E ∧ (imageByte img 1).toNat = 0x45 ∧ (imageByte img 2).toNat = 0x53 ∧
      (imageByte img 3).toNat = 0x1A) ∨
    ¬ ((imageByte img 4).toNat = 1 ∨ (imageByte img 4).toNat = 2) ∨ (imageByte img 5).toNat = 0 ∨
    img.length < 16 + (if (imageByte img 6).toNat / 4 % 2 = 1 then 512 else 0) + 16384 * (imageByte img 4).toNat +
      8192 * (imageByte img 5).toNat := by
  rw [← take_eq_signature_iff, ← imageEnd_eq]
  simp [malformed, BitVec.toNat_eq, or_assoc]

/-- Masking the high nibble is moving it down and up again. -/
theorem and_highNibble (v : Byte) : v &&& (0xF0 : Byte) = (v >>> 4) <<< 4 := by decide +revert

/-- The mapper is the two bytes' high nibbles, byte 7's above byte 6's (R316). -/
theorem mapperOf_toNat (img : List Byte) :
    (mapperOf img).toNat = (imageByte img 7).toNat / 16 * 16 + (imageByte img 6).toNat / 16 := by
  have h7 := (imageByte img 7).isLt
  have h6 : (imageByte img 6).toNat / 16 < 2 ^ 4 := by have := (imageByte img 6).isLt; omega
  have hfit : (imageByte img 7).toNat / 16 * 16 < 256 := by omega
  calc (mapperOf img).toNat
    _ = ((imageByte img 7).toNat / 2 ^ 4) <<< 4 % 256 ||| (imageByte img 6).toNat / 2 ^ 4 := by
      rw [mapperOf, and_highNibble, BitVec.toNat_or, BitVec.toNat_shiftLeft, BitVec.toNat_ushiftRight,
        BitVec.toNat_ushiftRight, Nat.shiftRight_eq_div_pow, Nat.shiftRight_eq_div_pow]
    _ = ((imageByte img 7).toNat / 16) <<< 4 ||| (imageByte img 6).toNat / 16 := by
      rw [Nat.mod_eq_of_lt (by rwa [Nat.shiftLeft_eq])]; rfl
    _ = (imageByte img 7).toNat / 16 * 16 + (imageByte img 6).toNat / 16 := by
      rw [← Nat.shiftLeft_add_eq_or_of_lt h6, Nat.shiftLeft_eq]

theorem mapperOf_eq_ofNat (img : List Byte) :
    mapperOf img = BitVec.ofNat 8 ((imageByte img 7).toNat / 16 * 16 + (imageByte img 6).toNat / 16) := by
  rw [← mapperOf_toNat, BitVec.ofNat_toNat, BitVec.setWidth_eq]

theorem mapperOf_eq_zero_iff (img : List Byte) :
    mapperOf img = 0x00 ↔ (imageByte img 7).toNat / 16 * 16 + (imageByte img 6).toNat / 16 = 0 := by
  rw [← mapperOf_toNat, BitVec.toNat_eq]
  rfl

theorem mirrorOf_eq (img : List Byte) : mirrorOf img =
    if (imageByte img 6).toNat / 8 % 2 = 1 then .none
    else if (imageByte img 6).toNat % 2 = 1 then .vertical else .horizontal := by
  simp only [mirrorOf, getLsbD_eq_beq, beq_iff_eq, Nat.reducePow, Nat.div_one]

/-! ## The three results -/

section
variable {img : List Byte}

theorem loadRom_of_malformed (h : malformed img = true) : loadRom img = .error .formatError := by
  rw [loadRom, if_pos h]

variable (hformat : ¬ malformed img = true)
include hformat

theorem loadRom_of_mapper (h : mapperOf img ≠ 0x00) : loadRom img = .error (.unsupportedMapper (mapperOf img)) := by
  rw [loadRom, if_neg hformat, if_pos (bne_iff_ne.2 h)]

theorem loadRom_of_baseMapper (h : mapperOf img = 0x00) : loadRom img = .ok (cartridgeOf img) := by
  rw [loadRom, if_neg hformat, if_neg (by rw [h]; decide)]

/-- An accepted image's cartridge meets the cartridge's invariants (R30): the unit counts passed R317, and each memory is a slice of
its own length. -/
theorem cartOk_cartridgeOf (h : mapperOf img = 0x00) : cartOk (cartridgeOf img) = true := by
  rw [malformed_iff] at hformat
  have hprg : (imageByte img 4).toNat = 1 ∨ (imageByte img 4).toNat = 2 :=
    by_contra fun hn => hformat (.inr (.inr (.inl hn)))
  have hchr : 1 ≤ (imageByte img 5).toNat := Nat.pos_of_ne_zero fun h0 => hformat (.inr (.inr (.inr (.inl h0))))
  simp [cartOk, cartridgeOf, h, memoryOk_ofBytes_take, hprg, hchr]

end

end Machine
end Sys2Proof

namespace Sys2Proof.Proofs

open Sys2Proof.Machine

/-- Settles O17: `malformed` and the mapper in numbers choose the result; an accepted image's two memories are slices of it. -/
theorem loadRomResult : Obligations.LoadRomResult := by
  intro img
  have hformat := malformed_iff img
  have hbase := mapperOf_eq_zero_iff img
  refine ⟨fun hbad => ?format, fun hgood hmapper => ?mapper, fun hgood hmapper => ⟨cartridgeOf img, ?load, ?fields⟩⟩
  case format => exact loadRom_of_malformed (hformat.2 hbad)
  case mapper =>
    rw [loadRom_of_mapper (mt hformat.1 hgood) (mt hbase.1 hmapper), mapperOf_eq_ofNat]
    rfl
  case load => exact loadRom_of_baseMapper (mt hformat.1 hgood) (hbase.2 hmapper)
  case fields =>
    exact ⟨rfl, rfl, hbase.2 hmapper, getLsbD_eq_beq _ 1, mirrorOf_eq img,
      fun k hk => (Memory.read_ofBytes_slice img _ hk).trans (by rw [prgOffset_eq]; rfl),
      fun k hk => (Memory.read_ofBytes_slice img _ hk).trans (by rw [prgOffset_eq]; rfl),
      cartOk_cartridgeOf (mt hformat.1 hgood) (hbase.2 hmapper)⟩

end Sys2Proof.Proofs
end
